-- ==== Sys2Proof/Word.lean ====
section
/-! DEFINITION. The words that travel on the ports and on the links: a byte, a two-byte value, a tick stamp and a
sample word. Quantities that the spec counts or computes with (speeds, times, pressures) are numbers, not words. -/

namespace Sys2Proof

/-- One byte of a frame or of a drive link message (R170). -/
abbrev Byte := BitVec 8

/-- A two-byte field (R170). -/
abbrev Word16 := BitVec 16

/-- A time stamp of the free-running tick count, 32 bits wide (R88). -/
abbrev Stamp := BitVec 32

/-- A word of the sample link: 16 bits of value, most significant first, then the parity bit, which is bit 0 (R171). -/
abbrev SampleWord := BitVec 17

end Sys2Proof
end

