-- ==== Sys2Proof/Syntax.lean ====
section
/-! DEFINITION. The commands of the part, one constructor per row of spec/opcode_table.json, and the small types of
their operands. Meaning is in Machine/ only. -/

namespace Sys2Proof

/-- The two serial ports (spec/11). -/
inductive Port where
  | line
  | cell
  deriving DecidableEq, Repr

/-- The six guard inputs (spec/01, 1.2). -/
inductive GuardInput where
  | estop
  | door
  | clamp1
  | clamp2
  | clamp3
  | clamp4
  deriving DecidableEq, Repr

/-- The levels of the six guard inputs, true for high (R1, R2). -/
structure GuardLevels where
  estop : Bool
  door : Bool
  clamp1 : Bool
  clamp2 : Bool
  clamp3 : Bool
  clamp4 : Bool
  deriving DecidableEq, Repr

/-- A direction of rotation (R38, R87). -/
inductive Direction where
  | fwd
  | rev
  deriving DecidableEq, Repr

/-- The four monitors with a filter time (R69). -/
inductive FilteredMonitor where
  | overload
  | noReaction
  | wheelOverload
  | diff
  deriving DecidableEq, Repr

/-- The settings record as SETTINGS WRITE carries it, field by field (R164, R170). -/
structure SettingsRecord where
  ventOffset : Word16
  tolerance : Word16
  interval : Byte
  policy : Byte
  classLeak : Byte
  classZero : Byte
  classOil : Byte
  classSpot : Byte
  spotMask : Byte
  lineRights : Byte
  deriving DecidableEq, Repr

/-- The commands of the command code table (R170); MODE is one command with four requests. -/
inductive Command where
  | induct
  | start
  | verdict
  | abort
  | recordRead
  | archive
  | mode
  | status
  | event
  | faultRead
  | clearFaults
  | faultReadAndClear
  | cellClear
  | recipeWrite
  | recipeRead
  | recipeValidate
  | patchWrite
  | patchRead
  | zeroCapture
  | zeroCheck
  | integrityLogRead
  | spotConvert
  | settingsWrite
  | settingsRead
  | routeWrite
  deriving DecidableEq, Repr

/-- The commands and events that reach the part: one constructor per row of spec/opcode_table.json.
A command that a port receives stands for the frame end of a well-formed frame that carries it (R160, R161). -/
inductive Instr where
  /-- DEVICE_RESET (R1), with the guard inputs as they are sampled when the reset ends. -/
  | deviceReset (inputs : GuardLevels)
  /-- GUARD_INPUT_CHANGE (R2): one input arrives at a level. -/
  | guardInputChange (input : GuardInput) (high : Bool)
  /-- SUPPLY_PAUSE_TIMER_EXPIRY (R80). -/
  | supplyPauseTimerExpiry
  /-- SETTLE_TIMER_EXPIRY (R14). -/
  | settleTimerExpiry
  /-- READY_REQUEST (R8). -/
  | readyRequest (port : Port)
  /-- IDLE_REQUEST (R9 to R11). -/
  | idleRequest (port : Port)
  /-- PAUSE_REQUEST (R12). -/
  | pauseRequest (port : Port)
  /-- RESUME_REQUEST (R12). -/
  | resumeRequest (port : Port)
  /-- CYCLE_START (R57). -/
  | cycleStart
  /-- DEMAND_RAMP_END (R41). -/
  | demandRampEnd
  /-- CYCLE_END (R63). -/
  | cycleEnd
  /-- STATUS_MESSAGE (R60): the bytes of one whole message, and which side R67 lets be taken first:
  true for the Supervision Monitors before the two controllers, false for the controllers first. -/
  | statusMessage (bytes : List Byte) (monitorsFirst : Bool)
  /-- DWELL_TIMER_EXPIRY (R44). -/
  | dwellTimerExpiry
  /-- STANDSTILL_TIMER_EXPIRY (R47). -/
  | standstillTimerExpiry
  /-- STEP_TIMER_EXPIRY (R46). -/
  | stepTimerExpiry
  /-- RUN_TIME_TICK (R55). -/
  | runTimeTick
  /-- FILTER_TIMER_EXPIRY (R69) of one filtered monitor. -/
  | filterTimerExpiry (monitor : FilteredMonitor)
  /-- OIL_REQUEST_TIMER_EXPIRY (R76). -/
  | oilRequestTimerExpiry
  /-- STALE_TIMER_EXPIRY (R76). -/
  | staleTimerExpiry
  /-- ENCODER_PULSE (R88): the stamp of the arrival and the direction. -/
  | encoderPulse (stamp : Stamp) (direction : Direction)
  /-- STALL_TIMER_EXPIRY (R89). -/
  | stallTimerExpiry
  /-- SAMPLE_ARRIVAL (R93): the stamp of the arrival and the 17 bits of the word (R171). -/
  | sampleArrival (stamp : Stamp) (word : SampleWord)
  /-- FILL_TIMER_EXPIRY (R111). -/
  | fillTimerExpiry
  /-- LEAK_SETTLE_TIMER_EXPIRY (R112). -/
  | leakSettleTimerExpiry
  /-- MEASURE_TIMER_EXPIRY (R113). -/
  | measureTimerExpiry
  /-- LEAK_REQUEST_TIMER_EXPIRY (R109). -/
  | leakRequestTimerExpiry
  /-- CHECK_TIMER_EXPIRY (R126). -/
  | checkTimerExpiry
  /-- CONVERSION_COMPLETION (R136) of the conversion in progress, with its value. -/
  | conversionCompletion (value : Word16)
  /-- FRAME_START (R159). -/
  | frameStart (port : Port)
  /-- FRAME_END (R160), with the bits received in the frame, the first bit first. -/
  | frameEnd (port : Port) (bits : List Bool)
  /-- UNKNOWN_COMMAND (R161): a request whose code is not a command code. -/
  | unknownCommand (port : Port) (code : Byte)
  /-- INDUCT (R146). -/
  | induct (port : Port) (serial : List Byte) (recipe : Byte)
  /-- START (R148). -/
  | start (port : Port)
  /-- ABORT (R149). -/
  | abort (port : Port)
  /-- VERDICT (R154). -/
  | verdict (port : Port)
  /-- ARCHIVE (R155). -/
  | archive (port : Port) (slot : Byte)
  /-- RECORD_READ (R156). -/
  | recordRead (port : Port) (slot : Byte) (sect : Byte) (chunk : Byte)
  /-- STATUS (R163). -/
  | status (port : Port)
  /-- EVENT (R168). -/
  | event (port : Port)
  /-- FAULT_READ (R83). -/
  | faultRead (port : Port)
  /-- CLEAR_FAULTS (R84). -/
  | clearFaults (port : Port)
  /-- FAULT_READ_AND_CLEAR (R85). -/
  | faultReadAndClear (port : Port)
  /-- CELL_CLEAR (R19). -/
  | cellClear (port : Port)
  /-- RECIPE_WRITE (R22, R23). -/
  | recipeWrite (port : Port) (recipe sect index field : Byte) (values : List Word16)
  /-- RECIPE_READ (R24). -/
  | recipeRead (port : Port) (recipe sect index field count : Byte)
  /-- RECIPE_VALIDATE (R25). -/
  | recipeValidate (port : Port) (recipe : Byte)
  /-- PATCH_WRITE (R31, R32). -/
  | patchWrite (port : Port) (entry enabled recipe sect index field : Byte) (value : Word16)
  /-- PATCH_READ (R33). -/
  | patchRead (port : Port) (entry : Byte)
  /-- ZERO_CAPTURE (R127). -/
  | zeroCapture (port : Port)
  /-- ZERO_CHECK (R134). -/
  | zeroCheck (port : Port)
  /-- INTEGRITY_LOG_READ (R133). -/
  | integrityLogRead (port : Port) (first : Byte)
  /-- SPOT_CONVERT (R142). -/
  | spotConvert (port : Port) (channel : Byte)
  /-- SETTINGS_WRITE (R164). -/
  | settingsWrite (port : Port) (settings : SettingsRecord)
  /-- SETTINGS_READ (R164). -/
  | settingsRead (port : Port)
  /-- ROUTE_WRITE (R165). -/
  | routeWrite (port : Port) (source route : Byte)
  deriving DecidableEq, Repr

end Sys2Proof
end

