-- ==== Sys2Proof/Decode.lean ====
section
/-! DEFINITION. Reading commands from bits: byte order (R170), frames (R160), command codes and payloads (R161, R170),
and decodeTableWord over the rows of spec/opcode_table.json that give bits (none does). -/

namespace Sys2Proof

/-- A two-byte field, most significant byte first (R170). -/
def word16 (hi lo : Byte) : Word16 := hi ++ lo

/-- A run of two-byte fields; none when a byte is left over (R170). -/
def word16s : List Byte → Option (List Word16)
  | [] => some []
  | hi :: lo :: rest => (word16s rest).map (word16 hi lo :: ·)
  | _ => none

/-- Whole bytes from bits, bit 7 of each byte first (R170); bits that fill no byte are left out. -/
def bytesOfBits : List Bool → List Byte
  | b7 :: b6 :: b5 :: b4 :: b3 :: b2 :: b1 :: b0 :: rest =>
    (BitVec.ofBool b7 ++ BitVec.ofBool b6 ++ BitVec.ofBool b5 ++ BitVec.ofBool b4 ++
      BitVec.ofBool b3 ++ BitVec.ofBool b2 ++ BitVec.ofBool b1 ++ BitVec.ofBool b0) :: bytesOfBits rest
  | _ => []

/-- The bits of a byte as they are sent, bit 7 first (R170). -/
def bitsOfByte (b : Byte) : List Bool :=
  [b.getLsbD 7, b.getLsbD 6, b.getLsbD 5, b.getLsbD 4, b.getLsbD 3, b.getLsbD 2, b.getLsbD 1, b.getLsbD 0]

/-- The bits of bytes as they are sent (R170). -/
def bitsOfBytes (bs : List Byte) : List Bool := bs.flatMap bitsOfByte

/-- What a port finds in the bits of a frame at its end (R160). -/
inductive FrameContent where
  | noRequest
  | frameError
  | request (code : Byte) (payload : List Byte)
  deriving DecidableEq, Repr

/-- The judgement of a frame's bits (R160). -/
def judgeFrame (bits : List Bool) : FrameContent :=
  if bits = [] then .noRequest
  else if bits.length % 8 ≠ 0 then .frameError
  else
    match bytesOfBits bits with
    | code :: n :: rest =>
      if 60 < n.toNat ∨ rest.length < n.toNat then .frameError
      else .request code (rest.take n.toNat)
    | _ => .frameError

/-- The command codes (R170). -/
def Command.code : Command → Byte
  | .induct => 0x10
  | .start => 0x11
  | .verdict => 0x12
  | .abort => 0x13
  | .recordRead => 0x14
  | .archive => 0x15
  | .mode => 0x20
  | .status => 0x21
  | .event => 0x22
  | .faultRead => 0x23
  | .clearFaults => 0x24
  | .faultReadAndClear => 0x25
  | .cellClear => 0x26
  | .recipeWrite => 0x30
  | .recipeRead => 0x31
  | .recipeValidate => 0x32
  | .patchWrite => 0x33
  | .patchRead => 0x34
  | .zeroCapture => 0x40
  | .zeroCheck => 0x41
  | .integrityLogRead => 0x42
  | .spotConvert => 0x43
  | .settingsWrite => 0x50
  | .settingsRead => 0x51
  | .routeWrite => 0x52

/-- All commands of the command code table. -/
def allCommands : List Command :=
  [.induct, .start, .verdict, .abort, .recordRead, .archive, .mode, .status, .event, .faultRead, .clearFaults,
   .faultReadAndClear, .cellClear, .recipeWrite, .recipeRead, .recipeValidate, .patchWrite, .patchRead, .zeroCapture,
   .zeroCheck, .integrityLogRead, .spotConvert, .settingsWrite, .settingsRead, .routeWrite]

/-- The command of a code byte, none for a code of no command (R161 step 1). -/
def commandOfCode (code : Byte) : Option Command := allCommands.find? (fun c => c.code == code)

/-- The request of a command on a port from its payload; none when the payload's length does not fit the command's
payload (R161 step 3), or a MODE request byte is none of the four (R162, RANGE). The serial length byte of INDUCT and
the byte count of RECIPE WRITE decide whether their payloads fit (log entry 7). -/
def decodeRequest (p : Port) : Command → List Byte → Option Instr
  | .induct, len :: rest =>
    if rest.length = len.toNat + 1 then some (.induct p (rest.take len.toNat) (rest.getLastD 0)) else none
  | .induct, _ => none
  | .start, payload => if payload = [] then some (.start p) else none
  | .verdict, payload => if payload = [] then some (.verdict p) else none
  | .abort, payload => if payload = [] then some (.abort p) else none
  | .recordRead, payload => match payload with | [slot, sect, chunk] => some (.recordRead p slot sect chunk) | _ => none
  | .archive, payload => match payload with | [slot] => some (.archive p slot) | _ => none
  | .mode, payload =>
    if payload = [0] then some (.readyRequest p)
    else if payload = [1] then some (.idleRequest p)
    else if payload = [2] then some (.pauseRequest p)
    else if payload = [3] then some (.resumeRequest p)
    else none
  | .status, payload => if payload = [] then some (.status p) else none
  | .event, payload => if payload = [] then some (.event p) else none
  | .faultRead, payload => if payload = [] then some (.faultRead p) else none
  | .clearFaults, payload => if payload = [] then some (.clearFaults p) else none
  | .faultReadAndClear, payload => if payload = [] then some (.faultReadAndClear p) else none
  | .cellClear, payload => if payload = [] then some (.cellClear p) else none
  | .recipeWrite, recipe :: sect :: index :: field :: rest =>
    (word16s rest).map (.recipeWrite p recipe sect index field)
  | .recipeWrite, _ => none
  | .recipeRead, payload =>
    match payload with
    | [recipe, sect, index, field, count] => some (.recipeRead p recipe sect index field count)
    | _ => none
  | .recipeValidate, payload => match payload with | [recipe] => some (.recipeValidate p recipe) | _ => none
  | .patchWrite, payload =>
    match payload with
    | [entry, enabled, recipe, sect, index, field, hi, lo] =>
      some (.patchWrite p entry enabled recipe sect index field (word16 hi lo))
    | _ => none
  | .patchRead, payload => match payload with | [entry] => some (.patchRead p entry) | _ => none
  | .zeroCapture, payload => if payload = [] then some (.zeroCapture p) else none
  | .zeroCheck, payload => if payload = [] then some (.zeroCheck p) else none
  | .integrityLogRead, payload => match payload with | [first] => some (.integrityLogRead p first) | _ => none
  | .spotConvert, payload => match payload with | [channel] => some (.spotConvert p channel) | _ => none
  | .settingsWrite, payload =>
    match payload with
    | [vh, vl, th, tl, k, policy, cl, cz, co, cs, mask, rights] =>
      some (.settingsWrite p ⟨word16 vh vl, word16 th tl, k, policy, cl, cz, co, cs, mask, rights⟩)
    | _ => none
  | .settingsRead, payload => if payload = [] then some (.settingsRead p) else none
  | .routeWrite, payload => match payload with | [source, route] => some (.routeWrite p source route) | _ => none

/-- No row of spec/opcode_table.json gives bits, so no word spells a command. -/
def decodeTableWord (_nbits _w : Nat) : Option Instr := none

end Sys2Proof
end

