-- ==== Sys2Proof/Config.lean ====
section
/-! DEFINITION. What the spec leaves free, as constants without a body, and the fixed numbers of the part. -/

namespace Sys2Proof.Config

/-- FREE VALUE (log entry 5). Where two effects of ONE event change the outcome by their order and the spec gives no
order, `takenFirst n` says for the n-th such order whether the effect that the model names first is taken first. -/
opaque takenFirst : Nat → Bool

/-- FREE VALUE (log entry 15). The speed of a block of so many revolutions whose closing pulse carries the very stamp of its
start: R97 rules such a block out and R100 states no quotient for it. -/
opaque instantSpeed : Nat → Nat

/-- A reported speed of this magnitude or less is standstill, in rpm (R5, R9, R13, R42, R43, R52). -/
def standstillSpeed : Nat := 10

/-- The pressure that stands in place of an invalid atmospheric reference (R9, R115). -/
def standInReference : Nat := 10133

/-- The settle timer's start value in ms (R14). -/
def settleMs : Nat := 10000

/-- The standstill timer's start value in ms (R43, R52). -/
def standstillMs : Nat := 5000

/-- The dwell timer's start value in ms (R43). -/
def dwellMs : Nat := 300

/-- The length in ms of the ramps of SETTLE, PAUSE and FINISH (R39, R49, R52). -/
def restRampMs : Nat := 2000

/-- The oil request timer's start value in ms (R76). -/
def oilRequestMs : Nat := 50

/-- The stale timer's start value in ms (R76). -/
def staleMs : Nat := 500

/-- The supply pause timer's start value in ms (R80). -/
def supplyPauseMs : Nat := 10000

/-- The leak request timer's start value in ms (R109). -/
def leakRequestMs : Nat := 10

/-- The check timer's start value in ms (R126). -/
def checkMs : Nat := 2000

/-- The stall timer's start value in ticks of 100 ns (R88). -/
def stallTicks : Nat := 200000

/-- The torque limit sent to LEFT and RIGHT in Nm (R38). -/
def wheelTorqueLimit : Nat := 30000

/-- The number of conversions of P in a zero check's burst (R126). -/
def zeroBurst : Nat := 8

/-- The lowest and the highest temperature that a reading may have to lie in range, in 0.1 K (R55, R77, R113). -/
def temperatureLow : Nat := 2330

/-- See `temperatureLow`. -/
def temperatureHigh : Nat := 4230

end Sys2Proof.Config
end

