-- ==== Sys2Proof/Machine/State.lean ====
section
/-! DEFINITION. The state of the part, block by block (spec/00 'Block overview'), as plain data, the reasons a step can
stop, and the state after device reset. -/

namespace Sys2Proof.Machine

/-- No command of the part makes it fault: what the spec calls a fault is a latch or a fault list entry, which are
state. The type has no constructor, so that no step can answer a fault. -/
inductive Fault where
  deriving DecidableEq, Repr

/-- Why a step has no meaning. -/
inductive Refusal where
  /-- Raised by exec's arm of a command that has no meaning yet, by name (safe: nothing is claimed of it). No arm does. -/
  | notModelled (mnemonic : String)
  deriving DecidableEq, Repr

/-! ## Names of the spec's values -/

/-- The seven cell modes (R1). -/
inductive Mode where
  | idle
  | ready
  | run
  | pause
  | settle
  | stop
  | halt
  deriving DecidableEq, Repr

/-- A pending target (R1). -/
inductive Target where
  | idle
  | ready
  deriving DecidableEq, Repr

/-- The pause kind (R1). -/
inductive PauseKind where
  | none
  | operator
  | supply
  deriving DecidableEq, Repr

/-- A timer that is stopped or runs with a remaining time. -/
inductive Timer where
  | stopped
  | running (remaining : Nat)
  deriving DecidableEq, Repr

/-- The standstill timer, which can be held at its remaining time (R40, R43). -/
inductive HoldTimer where
  | stopped
  | running (remaining : Nat)
  | held (remaining : Nat)
  deriving DecidableEq, Repr

/-- The step timer (R40): UNLOADED, running, or frozen by a pause (R49). -/
inductive StepTimer where
  | unloaded
  | running (remaining : Nat)
  | frozen (remaining : Nat)
  deriving DecidableEq, Repr

/-- The drives (spec/00 'Numbering'): INPUT is 0, LEFT 1 and RIGHT 2. -/
inductive DriveId where
  | input
  | left
  | right
  deriving DecidableEq, Repr

/-- One thing for each drive. -/
structure PerDrive (α : Type) where
  input : α
  left : α
  right : α
  deriving DecidableEq, Repr

/-- A drive's reported state (R60). -/
inductive DriveState where
  | off
  | ready
  | active
  | fault
  deriving DecidableEq, Repr

/-- A drive's reported bus state (R60). -/
inductive BusState where
  | normal
  | low
  | high
  deriving DecidableEq, Repr

/-- The three channels of the slow converter (R136). -/
inductive Channel where
  | p
  | ta
  | to
  deriving DecidableEq, Repr

/-- The four requesters of the converter, in position order (R137). -/
inductive Requester where
  | leak
  | zero
  | oil
  | spot
  deriving DecidableEq, Repr

/-- One thing for each requester. -/
structure PerRequester (α : Type) where
  leak : α
  zero : α
  oil : α
  spot : α
  deriving DecidableEq, Repr

/-- A requester's class (R138). -/
inductive Class where
  | high
  | low
  deriving DecidableEq, Repr

/-- The flank under load (spec/00 'Terms'). -/
inductive Flank where
  | drive
  | coast
  deriving DecidableEq, Repr

/-- The fifteen latches, in kind order (R68, R170). -/
inductive LatchKind where
  | overload
  | noReaction
  | wheelOverload
  | diff
  | oilPrewarn
  | oilShutdown
  | sensor
  | tempStale
  | driveFault
  | linkLoss
  | noStop
  | supply
  | estop
  | guard
  | clamp
  deriving DecidableEq, Repr

/-- The kinds of a fault list entry (R151, R170); NOISE EXCEED carries its slot, flank and bin. -/
inductive FaultKind where
  | latch (kind : LatchKind)
  | noiseExceed (slot : Nat) (flank : Flank) (bin : Nat)
  | leakGross
  | leakRate
  | zeroFail
  | aborted
  | cellClear
  deriving DecidableEq, Repr

/-- The three coordinates of a recipe item (R21). -/
structure ItemRef where
  sect : Nat
  index : Nat
  field : Nat
  deriving DecidableEq, Repr

/-- The kinds of a zero check (R124). -/
inductive CheckKind where
  | capture
  | endOfTest
  | command
  deriving DecidableEq, Repr

/-- The results of a zero check (R126). -/
inductive CheckResult where
  | good
  | failed
  | abandoned
  deriving DecidableEq, Repr

/-- The outcomes in the detail of a MODE event (R166, R170). -/
inductive TargetOutcome where
  | reached
  | degraded
  | dropped
  deriving DecidableEq, Repr

/-! ## Mode Controller -/

/-- The Mode Controller (R1). `seen` is the post-reset standstill mark of each drive (R5). -/
structure ModeController where
  mode : Mode
  target : Option Target
  pauseKind : PauseKind
  settleTimer : Timer
  guards : GuardLevels
  seen : PerDrive Bool
  deriving DecidableEq, Repr

/-! ## Recipe Store -/

/-- The 436 items of a recipe, section by section in item order (R21). -/
abbrev Items := Vector Nat 436

/-- A recipe slot (R20). -/
structure Recipe where
  items : Items
  valid : Bool
  deriving DecidableEq, Repr

/-- An entry of the patch table (R30). -/
structure Patch where
  enabled : Bool
  recipe : Nat
  target : ItemRef
  value : Nat
  deriving DecidableEq, Repr

/-- The Recipe Store (R20, R30). -/
structure RecipeStore where
  recipes : Vector Recipe 12
  patches : Vector Patch 8
  deriving DecidableEq, Repr

/-! ## Run-In Controller -/

/-- A demand ramp in progress (R38, R41): speeds in rpm, times in ms. -/
structure Ramp where
  start : Nat
  target : Nat
  length : Nat
  elapsed : Nat
  deriving DecidableEq, Repr

/-- The drive demand (R38). -/
structure Demand where
  direction : Direction
  speed : Nat
  wheel : Int
  limit : Nat
  ramp : Option Ramp
  deriving DecidableEq, Repr

/-- The stages of REVERSE (R40, R43). -/
inductive ReversalStage where
  | rampDown
  | standstillWait
  | dwell
  deriving DecidableEq, Repr

/-- The stages of FINISH (R40, R52, R53). -/
inductive FinishStage where
  | rampDown
  | standstillWait
  | ventWait
  | zeroWait
  | decisionDue
  deriving DecidableEq, Repr

/-- The phase of the current step (R40). -/
inductive Phase where
  | reverse (stage : ReversalStage)
  | ramp
  | hold
  | finish (stage : FinishStage)
  deriving DecidableEq, Repr

/-- The test context (R40). `requestHeld` is R53's held request of the end-of-test path. -/
structure TestContext where
  copy : Items
  step : Nat
  phase : Phase
  loop : Nat
  stepTimer : StepTimer
  standstill : HoldTimer
  dwell : Timer
  started : Vector Bool 24
  resumeRamp : Bool
  requestHeld : Bool
  deriving DecidableEq, Repr

/-! ## Drive Link Controller -/

/-- The held status of a drive (R56, R65). -/
structure DriveStatus where
  state : DriveState
  speed : Int
  torque : Int
  bus : BusState
  deriving DecidableEq, Repr

/-- What the Drive Link Controller holds of one drive (R56). -/
structure DriveLine where
  held : DriveStatus
  received : Bool
  good : Bool
  misses : Nat
  deriving DecidableEq, Repr

/-- The Drive Link Controller (R56). `sent` is the model's record of the setpoint messages last sent (R58). -/
structure DriveLink where
  cycle : Byte
  drives : PerDrive DriveLine
  sent : List (List Byte)
  deriving DecidableEq, Repr

/-! ## Supervision Monitors -/

/-- The filter timers of the four filtered monitors (R68). -/
structure Filters where
  overload : Timer
  noReaction : Timer
  wheelOverload : Timer
  diff : Timer
  deriving DecidableEq, Repr

/-- The Supervision Monitors (R68). A latch is none when CLEAR and holds its value when SET. -/
structure Supervision where
  latches : Vector (Option Nat) 15
  filters : Filters
  oilCount : Nat
  oilRequest : Timer
  stale : Timer
  lastOil : Option Nat
  supplyPause : Timer
  deriving DecidableEq, Repr

/-! ## Order Analyser -/

/-- The last pulse of the pulse tracker (R87). -/
structure Pulse where
  stamp : Stamp
  direction : Direction
  deriving DecidableEq, Repr

/-- The open block (R87). -/
structure Block where
  start : Stamp
  direction : Direction
  flank : Flank
  pulses : Int
  samples : Nat
  inPhase : Vector Int 4
  quadrature : Vector Int 4
  linkMark : Bool
  clipMark : Bool
  deriving DecidableEq, Repr

/-- The Order Analyser (R87); `interval` is T, none for UNKNOWN. -/
structure OrderAnalyser where
  lastPulse : Option Pulse
  interval : Option Nat
  stall : Timer
  block : Option Block
  discards : Nat
  deriving DecidableEq, Repr

/-! ## Leak Controller -/

/-- The leak phases (R107). -/
inductive LeakPhase where
  | idle
  | fill
  | settle
  | measure
  | wait
  | vent
  | done
  deriving DecidableEq, Repr

/-- The leak outcome (R107, R121). -/
inductive LeakOutcome where
  | pass
  | fail
  | notDecided
  deriving DecidableEq, Repr

/-- The burst in progress (R107). -/
inductive BurstKind where
  | start
  | finish
  deriving DecidableEq, Repr

/-- An average pressure and an average temperature (R113). -/
structure PressureTemp where
  pressure : Nat
  temperature : Nat
  deriving DecidableEq, Repr

/-- The Leak Controller (R107). -/
structure LeakController where
  phase : LeakPhase
  attempts : Nat
  outcome : Option LeakOutcome
  fill : Timer
  settle : Timer
  measure : Timer
  request : Timer
  burst : Option BurstKind
  pCount : Nat
  taCount : Nat
  pSum : Nat
  taSum : Nat
  rangeMark : Bool
  startValues : Option PressureTemp
  lastFill : Option Nat
  deriving DecidableEq, Repr

/-! ## Zero Check -/

/-- The policies of a failed check (R125). -/
inductive Policy where
  | halt
  | flag
  deriving DecidableEq, Repr

/-- The stages of a check (R126). -/
inductive CheckStage where
  | settle
  | burst
  deriving DecidableEq, Repr

/-- A check in progress (R124). -/
structure Check where
  kind : CheckKind
  stage : CheckStage
  deriving DecidableEq, Repr

/-- An entry of the integrity log (R133). -/
structure LogEntry where
  kind : CheckKind
  average : Nat
  reference : Nat
  tolerance : Nat
  marked : Nat
  departed : Nat
  slot : Option (Fin 16)
  policy : Policy
  deriving DecidableEq, Repr

/-- The Zero Check (R124, R125); `interval` is K. -/
structure ZeroCheck where
  reference : Nat
  refValid : Bool
  unchecked : Nat
  forced : Bool
  check : Option Check
  timer : Timer
  count : Nat
  sum : Nat
  log : List LogEntry
  ventOffset : Nat
  tolerance : Nat
  interval : Nat
  policy : Policy
  deriving DecidableEq, Repr

/-! ## Converter Arbiter -/

/-- A request for conversions (R137): a single one, or a burst with its channels in order. -/
inductive Request where
  | single (channel : Channel)
  | burst (channels : List Channel)
  deriving DecidableEq, Repr

/-- The conversion in progress (R136); `expected` is false once its requester has withdrawn (R141). -/
structure Conversion where
  requester : Requester
  channel : Channel
  expected : Bool
  deriving DecidableEq, Repr

/-- The burst owner (R137, R140): `remaining` lists the conversions that have not completed, the one in progress first;
its length is the remaining count. -/
structure BurstOwner where
  requester : Requester
  remaining : List Channel
  deriving DecidableEq, Repr

/-- The Converter Arbiter (R138, R143); a pointer at none stands at FIRST. -/
structure Arbiter where
  waiting : PerRequester (Option Request)
  inProgress : Option Conversion
  owner : Option BurstOwner
  high : Option Requester
  low : Option Requester
  lowDue : Bool
  lastP : Option Nat
  classes : PerRequester Class
  spotMasked : Bool
  deriving DecidableEq, Repr

/-! ## Record Queue -/

/-- A record's state (R144). -/
inductive RecordState where
  | queued
  | onTest
  | decided
  deriving DecidableEq, Repr

/-- The run-in section (R55). -/
structure RunInSection where
  stepsCompleted : Nat
  lastStep : Nat
  maxOil : Nat
  maxTorque : Nat
  prewarnSeen : Bool
  runTime : Nat
  deriving DecidableEq, Repr

/-- The noise outcome (R102, R105). -/
inductive NoiseOutcome where
  | pass
  | fail
  | incomplete
  deriving DecidableEq, Repr

/-- The noise section (R102): peaks by 32 × slot + 16 × flank + bin, coverage by 16 × flank + bin. -/
structure NoiseSection where
  peaks : Vector Nat 128
  coverage : Vector Bool 32
  discards : Nat
  outcome : Option NoiseOutcome
  deriving DecidableEq, Repr

/-- The end reasons of a leak attempt (R121). -/
inductive EndReason where
  | completed
  | gross
  | step
  | pause
  | sensor
  | finish
  deriving DecidableEq, Repr

/-- The leak section (R121). -/
structure LeakSection where
  startValues : Option PressureTemp
  endValues : Option PressureTemp
  rate : Option Nat
  rise : Bool
  outcome : Option LeakOutcome
  attempts : Nat
  endOf1 : Option EndReason
  endOf2 : Option EndReason
  deriving DecidableEq, Repr

/-- The zero status of a record (R128). -/
inductive ZeroStatus where
  | unchecked
  | checked
  | suspect
  deriving DecidableEq, Repr

/-- A fault list entry (R82, R151). -/
structure FaultEntry where
  kind : FaultKind
  step : Nat
  value : Nat
  deriving DecidableEq, Repr

/-- The overflow mark (R151). -/
inductive Overflow where
  | clear
  | equipment
  | axle
  deriving DecidableEq, Repr

/-- The verdict (R153). -/
inductive Verdict where
  | pass
  | fail
  | noDecision
  deriving DecidableEq, Repr

/-- An axle record (R144). -/
structure Record where
  serial : List Byte
  recipe : Nat
  retest : Nat
  seq : Word16
  state : RecordState
  released : Bool
  archived : Bool
  runIn : Option RunInSection
  noise : Option NoiseSection
  leak : Option LeakSection
  zero : Option ZeroStatus
  faults : List FaultEntry
  overflow : Overflow
  verdict : Option Verdict
  deriving DecidableEq, Repr

/-- The Record Queue (R144). -/
structure RecordQueue where
  slots : Vector (Option Record) 16
  nextSeq : Word16
  deriving DecidableEq, Repr

/-! ## Port Interfaces -/

/-- The result codes, in code order (R162, R170). -/
inductive ResultCode where
  | ok
  | notReady
  | mode
  | halted
  | busy
  | full
  | duplicate
  | retest
  | serial
  | recipe
  | patch
  | zero
  | none
  | access
  | range
  | frame
  | unknown
  | reset
  deriving DecidableEq, Repr

/-- A held reply (R158); its length is the length of `data`. -/
structure Reply where
  code : ResultCode
  data : List Byte
  deriving DecidableEq, Repr

/-- What a port has of a frame (R158, R159): none; one in assembly, with the status byte and the reply that it sends
and the bits received; or one that a device reset has discarded before its end. -/
inductive Frame where
  | idle
  | assembling (status : Byte) (sending : Reply) (received : List Bool)
  | discarded
  deriving DecidableEq, Repr

/-- One port (R158). -/
structure PortState where
  held : Reply
  frame : Frame
  deriving DecidableEq, Repr

/-- The line rights, true for ALLOWED (R162). -/
structure LineRights where
  hold : Bool
  abort : Bool
  clear : Bool
  deriving DecidableEq, Repr

/-- The Port Interfaces (R158, R162). -/
structure Ports where
  line : PortState
  cell : PortState
  rights : LineRights
  deriving DecidableEq, Repr

/-! ## Event Unit -/

/-- A route (R165). -/
inductive Route where
  | none
  | line
  | cell
  | both
  deriving DecidableEq, Repr

/-- An event with its detail, one constructor per source, in priority order (R166, R170). -/
inductive Event where
  | halt (left : Mode)
  | guard (levels : GuardLevels)
  | fault (kind : LatchKind) (value : Nat)
  | suspect (marked departed : Nat)
  | verdict (slot : Fin 16)
  | queueFull (slot : Fin 16)
  | mode (mode : Mode) (outcome : TargetOutcome)
  | access (port : Port) (command : Command)
  | zero (kind : CheckKind) (result : CheckResult) (average : Nat)
  | convert (channel : Channel) (value : Nat)
  | recipe (recipe : Nat) (failure : Option ItemRef)
  deriving DecidableEq, Repr

/-- The Event Unit (R166): routes and pending marks by priority, the highest at index 0. -/
structure EventUnit where
  routes : Vector Route 11
  line : Vector (Option Event) 11
  cell : Vector (Option Event) 11
  deriving DecidableEq, Repr

/-! ## The part -/

/-- The state of the part. `ticks` is the free-running tick count as last seen (R88); `orders` counts the open orders
that have been taken (the argument of Config.takenFirst, the model's own field); `pending` is the queue of commands,
the next one first. -/
structure State where
  mode : ModeController
  store : RecipeStore
  demand : Demand
  ctx : Option TestContext
  link : DriveLink
  sup : Supervision
  noise : OrderAnalyser
  leak : LeakController
  zero : ZeroCheck
  conv : Arbiter
  queue : RecordQueue
  ports : Ports
  events : EventUnit
  ticks : Stamp
  orders : Nat
  pending : List Instr
  deriving DecidableEq, Repr

/-! One setter for each field; Laws/State.lean says what each leaves unchanged. -/

def State.withMode (s : State) (x : ModeController) : State := { s with mode := x }
def State.withStore (s : State) (x : RecipeStore) : State := { s with store := x }
def State.withDemand (s : State) (x : Demand) : State := { s with demand := x }
def State.withCtx (s : State) (x : Option TestContext) : State := { s with ctx := x }
def State.withLink (s : State) (x : DriveLink) : State := { s with link := x }
def State.withSup (s : State) (x : Supervision) : State := { s with sup := x }
def State.withNoise (s : State) (x : OrderAnalyser) : State := { s with noise := x }
def State.withLeak (s : State) (x : LeakController) : State := { s with leak := x }
def State.withZero (s : State) (x : ZeroCheck) : State := { s with zero := x }
def State.withConv (s : State) (x : Arbiter) : State := { s with conv := x }
def State.withQueue (s : State) (x : RecordQueue) : State := { s with queue := x }
def State.withPorts (s : State) (x : Ports) : State := { s with ports := x }
def State.withEvents (s : State) (x : EventUnit) : State := { s with events := x }
def State.withTicks (s : State) (x : Stamp) : State := { s with ticks := x }
def State.withOrders (s : State) (x : Nat) : State := { s with orders := x }
def State.withPending (s : State) (x : List Instr) : State := { s with pending := x }

/-! ## Device reset -/

/-- The items of a blank recipe as a list: LOOP TARGET 255 in each step, every other item 0 (R20). -/
def blankItemList : List Nat :=
  List.replicate 4 0 ++ (List.replicate 24 [0, 0, 0, 0, 0, 0, 0, 0, 0, 0, 255, 0]).flatten ++ List.replicate 144 0

/-- A blank recipe's items (R20). -/
def blankItems : Items := ⟨⟨blankItemList⟩, by decide +kernel⟩

/-- The Mode Controller after device reset with the guard inputs as sampled (R1). -/
def resetMode (inputs : GuardLevels) : ModeController :=
  { mode := .idle, target := none, pauseKind := .none, settleTimer := .stopped, guards := inputs
    seen := ⟨false, false, false⟩ }

/-- The Recipe Store after device reset (R20, R30). -/
def resetStore : RecipeStore :=
  { recipes := Vector.replicate 12 ⟨blankItems, false⟩, patches := Vector.replicate 8 ⟨false, 0, ⟨0, 0, 0⟩, 0⟩ }

/-- The drive demand after device reset (R38). -/
def resetDemand : Demand := { direction := .fwd, speed := 0, wheel := 0, limit := 100, ramp := none }

/-- One drive's line after device reset (R56). -/
def resetDrive : DriveLine :=
  { held := ⟨.off, 0, 0, .normal⟩, received := false, good := false, misses := 0 }

/-- The Drive Link Controller after device reset (R56); nothing has been sent. -/
def resetLink : DriveLink := { cycle := 0, drives := ⟨resetDrive, resetDrive, resetDrive⟩, sent := [] }

/-- The Supervision Monitors after device reset (R68). -/
def resetSup : Supervision :=
  { latches := Vector.replicate 15 none, filters := ⟨.stopped, .stopped, .stopped, .stopped⟩, oilCount := 0
    oilRequest := .stopped, stale := .stopped, lastOil := none, supplyPause := .stopped }

/-- The Order Analyser after device reset (R87). -/
def resetNoise : OrderAnalyser :=
  { lastPulse := none, interval := none, stall := .stopped, block := none, discards := 0 }

/-- The Leak Controller after device reset (R107). -/
def resetLeak : LeakController :=
  { phase := .idle, attempts := 0, outcome := none, fill := .stopped, settle := .stopped, measure := .stopped
    request := .stopped, burst := none, pCount := 0, taCount := 0, pSum := 0, taSum := 0, rangeMark := false
    startValues := none, lastFill := none }

/-- The Zero Check after device reset (R124, R125). -/
def resetZero : ZeroCheck :=
  { reference := 0, refValid := false, unchecked := 0, forced := false, check := none, timer := .stopped
    count := 0, sum := 0, log := [], ventOffset := 50, tolerance := 30, interval := 4, policy := .halt }

/-- The Converter Arbiter after device reset (R138, R143). -/
def resetConv : Arbiter :=
  { waiting := ⟨none, none, none, none⟩, inProgress := none, owner := none, high := none, low := none
    lowDue := false, lastP := none, classes := ⟨.high, .high, .high, .low⟩, spotMasked := false }

/-- The Record Queue after device reset (R144). -/
def resetQueue : RecordQueue := { slots := Vector.replicate 16 none, nextSeq := 0 }

/-- One port after device reset (R158). -/
def resetPort : PortState := { held := ⟨.reset, []⟩, frame := .idle }

/-- The Port Interfaces after device reset (R158, R162). -/
def resetPorts : Ports := { line := resetPort, cell := resetPort, rights := ⟨true, true, false⟩ }

/-- The Event Unit after device reset, with the default routes of R166. -/
def resetEvents : EventUnit :=
  { routes := ⟨⟨[.both, .both, .both, .both, .line, .line, .both, .cell, .cell, .cell, .cell]⟩, rfl⟩
    line := Vector.replicate 11 none, cell := Vector.replicate 11 none }

/-- The part as a device reset leaves it (R1 and the reset columns of every block), with the guard inputs as sampled. -/
def State.resetWith (inputs : GuardLevels) : State :=
  { mode := resetMode inputs, store := resetStore, demand := resetDemand, ctx := none, link := resetLink
    sup := resetSup, noise := resetNoise, leak := resetLeak, zero := resetZero, conv := resetConv
    queue := resetQueue, ports := resetPorts, events := resetEvents, ticks := 0, orders := 0, pending := [] }

/-- The part right after reset. R1 samples the guard inputs as the reset ends; DESIGN CHOICE (log entry 1), unsafe: all
six inputs are low. DESIGN CHOICE (log entry 3), unsafe: the free-running tick count stands at 0. -/
def State.reset : State := State.resetWith ⟨false, false, false, false, false, false⟩

end Sys2Proof.Machine
end

