-- ==== Sys2Proof/Machine/Operands.lean ====
section
/-! DEFINITION. Reading and forming what the commands carry and return: keys of the fixed-size tables, recipe items
(R21), codes and layouts (R170), drive link messages (R58 to R60), sample words (R171). -/

namespace Sys2Proof.Machine

/-! ## Keys -/

/-- The drives in id order (spec/00 'Numbering'). -/
def allDrives : List DriveId := [.input, .left, .right]

/-- A drive's id (spec/00 'Numbering'). -/
def driveNumber : DriveId → Nat
  | .input => 0
  | .left => 1
  | .right => 2

/-- One drive's thing. -/
def PerDrive.get {α : Type} (p : PerDrive α) : DriveId → α
  | .input => p.input
  | .left => p.left
  | .right => p.right

/-- Replace one drive's thing. -/
def PerDrive.set {α : Type} (p : PerDrive α) (d : DriveId) (x : α) : PerDrive α :=
  match d with
  | .input => { p with input := x }
  | .left => { p with left := x }
  | .right => { p with right := x }

/-- One requester's thing. -/
def PerRequester.get {α : Type} (p : PerRequester α) : Requester → α
  | .leak => p.leak
  | .zero => p.zero
  | .oil => p.oil
  | .spot => p.spot

/-- Replace one requester's thing. -/
def PerRequester.set {α : Type} (p : PerRequester α) (r : Requester) (x : α) : PerRequester α :=
  match r with
  | .leak => { p with leak := x }
  | .zero => { p with zero := x }
  | .oil => { p with oil := x }
  | .spot => { p with spot := x }

/-- A requester's position (R137). -/
def position : Requester → Nat
  | .leak => 0
  | .zero => 1
  | .oil => 2
  | .spot => 3

/-- One filtered monitor's timer (R68). -/
def Filters.get (f : Filters) : FilteredMonitor → Timer
  | .overload => f.overload
  | .noReaction => f.noReaction
  | .wheelOverload => f.wheelOverload
  | .diff => f.diff

/-- Replace one filtered monitor's timer. -/
def Filters.set (f : Filters) (m : FilteredMonitor) (t : Timer) : Filters :=
  match m with
  | .overload => { f with overload := t }
  | .noReaction => { f with noReaction := t }
  | .wheelOverload => { f with wheelOverload := t }
  | .diff => { f with diff := t }

/-- The filtered monitors in latch kind order. -/
def allMonitors : List FilteredMonitor := [.overload, .noReaction, .wheelOverload, .diff]

/-- The latch of a filtered monitor (spec/05, the table of latches). -/
def monitorLatch : FilteredMonitor → LatchKind
  | .overload => .overload
  | .noReaction => .noReaction
  | .wheelOverload => .wheelOverload
  | .diff => .diff

/-- The filter time of a monitor in ms (R71 to R74). -/
def filterMs : FilteredMonitor → Nat
  | .overload => 50
  | .noReaction => 200
  | .wheelOverload => 50
  | .diff => 100

/-- The fifteen latch kinds in kind order (R170). -/
def allLatches : List LatchKind :=
  [.overload, .noReaction, .wheelOverload, .diff, .oilPrewarn, .oilShutdown, .sensor, .tempStale, .driveFault,
   .linkLoss, .noStop, .supply, .estop, .guard, .clamp]

/-- A latch kind's place in the latch table: its code of R170 less 1. -/
def LatchKind.index : LatchKind → Fin 15
  | .overload => 0
  | .noReaction => 1
  | .wheelOverload => 2
  | .diff => 3
  | .oilPrewarn => 4
  | .oilShutdown => 5
  | .sensor => 6
  | .tempStale => 7
  | .driveFault => 8
  | .linkLoss => 9
  | .noStop => 10
  | .supply => 11
  | .estop => 12
  | .guard => 13
  | .clamp => 14

/-- The latches whose setting takes the cell to STOP: all but OIL PREWARN and SUPPLY (R16). -/
def LatchKind.stopClass : LatchKind → Bool
  | .oilPrewarn => false
  | .supply => false
  | .overload | .noReaction | .wheelOverload | .diff | .oilShutdown | .sensor | .tempStale | .driveFault
  | .linkLoss | .noStop | .estop | .guard | .clamp => true

/-- The sixteen record slots in order (R144). -/
def allSlots : List (Fin 16) := [0, 1, 2, 3, 4, 5, 6, 7, 8, 9, 10, 11, 12, 13, 14, 15]

/-- The place of an event's source in the Event Unit: its priority number less 1 (R166). -/
def Event.source : Event → Fin 11
  | .halt _ => 0
  | .guard _ => 1
  | .fault _ _ => 2
  | .suspect _ _ => 3
  | .verdict _ => 4
  | .queueFull _ => 5
  | .mode _ _ => 6
  | .access _ _ => 7
  | .zero _ _ _ => 8
  | .convert _ _ => 9
  | .recipe _ _ => 10

/-- The eleven sources in priority order (R166). -/
def allSources : List (Fin 11) := [0, 1, 2, 3, 4, 5, 6, 7, 8, 9, 10]

/-! ## Numbers as bytes -/

/-- A number as one byte. -/
def byte (n : Nat) : Byte := BitVec.ofNat 8 n

/-- A number as a two-byte field, most significant byte first (R170). -/
def be16 (n : Nat) : List Byte := [byte (n / 256), byte n]

/-- A signed number as a two-byte field in two's complement (R170). -/
def beInt16 (n : Int) : List Byte := be16 (BitVec.ofInt 16 n).toNat

/-- A flag as one byte, 1 when it holds (R170). -/
def flagByte (b : Bool) : Byte := if b then 1 else 0

/-- A signed two-byte field (R170). -/
def signed16 (hi lo : Byte) : Int := (word16 hi lo).toInt

/-- A list cut or filled with zero bytes to a length (R170, fields 'zero-filled'). -/
def padded (n : Nat) (bs : List Byte) : List Byte := (bs ++ List.replicate n 0).take n

/-! ## Recipe items -/

/-- The place of an item in item order (R21), none when the target names no item. -/
def itemOffset (t : ItemRef) : Option Nat :=
  match t.sect with
  | 0 => if t.index = 0 ∧ t.field < 4 then some t.field else none
  | 1 => if t.index < 24 ∧ t.field < 12 then some (4 + 12 * t.index + t.field) else none
  | 2 =>
    match t.field with
    | 0 => if t.index = 0 then some 292 else none
    | 1 => if t.index < 4 then some (293 + t.index) else none
    | 2 => if t.index = 0 then some 297 else none
    | 3 => if t.index = 0 then some 298 else none
    | 4 => if t.index = 0 then some 299 else none
    | 5 => if t.index < 128 then some (300 + t.index) else none
    | _ => none
  | 3 => if t.index = 0 ∧ t.field < 8 then some (428 + t.field) else none
  | _ => none

/-- The place after the last item of a section (R21). -/
def sectionEnd : Nat → Nat
  | 0 => 4
  | 1 => 292
  | 2 => 428
  | _ => 436

/-- The place of the first item of a run of `len` items from a target, none in the cases that R22 and R24 refuse. -/
def runOffset (t : ItemRef) (len : Nat) : Option Nat :=
  match itemOffset t with
  | none => none
  | some o => if 1 ≤ len ∧ len ≤ 27 ∧ o + len ≤ sectionEnd t.sect then some o else none

/-- The item at a place in item order. -/
def item (r : Items) (i : Nat) : Nat := r[i]?.getD 0

/-- Write values to the items from a place on (R22, R23). -/
def writeItems (r : Items) (i : Nat) : List Nat → Items
  | [] => r
  | v :: vs => writeItems (r.setIfInBounds i v) (i + 1) vs

/-- Replace the item that a target names (R34 step 2). -/
def setItem (r : Items) (t : ItemRef) (v : Nat) : Items :=
  match itemOffset t with
  | some o => r.setIfInBounds o v
  | none => r

/-- A field of a step (section 2.1). -/
def stepField (r : Items) (k f : Nat) : Nat := item r (4 + 12 * k + f)

def stepCount (r : Items) : Nat := item r 0
def inputTorqueLimit (r : Items) : Nat := item r 1
def oilPrewarn (r : Items) : Nat := item r 2
def oilShutdown (r : Items) : Nat := item r 3
def stepDirection (r : Items) (k : Nat) : Direction := if stepField r k 0 = 1 then .rev else .fwd
def stepFlank (r : Items) (k : Nat) : Flank := if stepField r k 1 = 1 then .coast else .drive
def inputSpeed (r : Items) (k : Nat) : Nat := stepField r k 2
def wheelTorque (r : Items) (k : Nat) : Nat := stepField r k 3
def torqueBand (r : Items) (k : Nat) : Nat := stepField r k 4
def rampTime (r : Items) (k : Nat) : Nat := stepField r k 5
def holdTime (r : Items) (k : Nat) : Nat := stepField r k 6
def diffLock (r : Items) (k : Nat) : Bool := stepField r k 7 == 1
def noiseWindow (r : Items) (k : Nat) : Bool := stepField r k 8 == 1
def leakQuiet (r : Items) (k : Nat) : Bool := stepField r k 9 == 1
def loopTarget (r : Items) (k : Nat) : Nat := stepField r k 10
def loopCount (r : Items) (k : Nat) : Nat := stepField r k 11
def noiseEnabled (r : Items) : Bool := item r 292 == 1
def order (r : Items) (slot : Nat) : Nat := item r (293 + slot)
def blockRevs (r : Items) : Nat := item r 297
def lowBinSpeed (r : Items) : Nat := item r 298
def binWidth (r : Items) : Nat := item r 299
def limitAt (r : Items) (i : Nat) : Nat := item r (300 + i)
def leakEnabled (r : Items) : Bool := item r 428 == 1
def triggerStep (r : Items) : Nat := item r 429
def fillTarget (r : Items) : Nat := item r 430
def fillTimeout (r : Items) : Nat := item r 431
def leakSettleTime (r : Items) : Nat := item r 432
def measureTime (r : Items) : Nat := item r 433
def burstLength (r : Items) : Nat := item r 434
def rateLimit (r : Items) : Nat := item r 435

/-- The code of LOOP TARGET NONE (section 2.1). -/
def loopNone : Nat := 255

/-! ## Codes (R170) -/

def ResultCode.toNat : ResultCode → Nat
  | .ok => 0x00
  | .notReady => 0x01
  | .mode => 0x02
  | .halted => 0x03
  | .busy => 0x04
  | .full => 0x05
  | .duplicate => 0x06
  | .retest => 0x07
  | .serial => 0x08
  | .recipe => 0x09
  | .patch => 0x0A
  | .zero => 0x0B
  | .none => 0x0C
  | .access => 0x0D
  | .range => 0x0E
  | .frame => 0x0F
  | .unknown => 0x10
  | .reset => 0x11

def Mode.code : Mode → Nat
  | .idle => 0
  | .ready => 1
  | .run => 2
  | .pause => 3
  | .settle => 4
  | .stop => 5
  | .halt => 6

def targetCode : Option Target → Nat
  | none => 0
  | some .idle => 1
  | some .ready => 2

def PauseKind.code : PauseKind → Nat
  | .none => 0
  | .operator => 1
  | .supply => 2

def Channel.code : Channel → Nat
  | .p => 0
  | .ta => 1
  | .to => 2

def channelOfCode : Nat → Option Channel
  | 0 => some .p
  | 1 => some .ta
  | 2 => some .to
  | _ => none

def Flank.code : Flank → Nat
  | .drive => 0
  | .coast => 1

def LatchKind.code (k : LatchKind) : Nat := k.index.val + 1

def FaultKind.code : FaultKind → Nat
  | .latch k => k.code
  | .noiseExceed _ _ _ => 16
  | .leakGross => 17
  | .leakRate => 18
  | .zeroFail => 19
  | .aborted => 20
  | .cellClear => 21

def CheckKind.code : CheckKind → Nat
  | .capture => 0
  | .endOfTest => 1
  | .command => 2

/-- The kind code of an integrity log entry (R170), which differs from the kind code of a ZERO event. -/
def CheckKind.logCode : CheckKind → Nat
  | .capture => 0
  | .endOfTest => 0
  | .command => 1

def CheckResult.code : CheckResult → Nat
  | .good => 0
  | .failed => 1
  | .abandoned => 2

def TargetOutcome.code : TargetOutcome → Nat
  | .reached => 0
  | .degraded => 1
  | .dropped => 2

def portCode : Port → Nat
  | .line => 0
  | .cell => 1

def Policy.code : Policy → Nat
  | .halt => 0
  | .flag => 1

def Class.code : Class → Nat
  | .high => 0
  | .low => 1

def Route.code : Route → Nat
  | .none => 0
  | .line => 1
  | .cell => 2
  | .both => 3

def routeOfCode : Nat → Option Route
  | 0 => some .none
  | 1 => some .line
  | 2 => some .cell
  | 3 => some .both
  | _ => none

def RecordState.code : RecordState → Nat
  | .queued => 0
  | .onTest => 1
  | .decided => 2

def verdictCode : Option Verdict → Nat
  | none => 0
  | some .pass => 1
  | some .fail => 2
  | some .noDecision => 3

def zeroStatusCode : Option ZeroStatus → Nat
  | none => 0
  | some .unchecked => 1
  | some .checked => 2
  | some .suspect => 3

def Overflow.code : Overflow → Nat
  | .clear => 0
  | .equipment => 1
  | .axle => 2

def noiseOutcomeCode : Option NoiseOutcome → Nat
  | none => 0
  | some .pass => 1
  | some .fail => 2
  | some .incomplete => 3

def leakOutcomeCode : Option LeakOutcome → Nat
  | none => 0
  | some .pass => 1
  | some .fail => 2
  | some .notDecided => 3

def endReasonCode : Option EndReason → Nat
  | none => 0
  | some .completed => 1
  | some .gross => 2
  | some .step => 3
  | some .pause => 4
  | some .sensor => 5
  | some .finish => 6

/-! ## Drive link messages -/

/-- The additive check of a message (R59): the byte that makes the sum of all bytes 0 modulo 256. -/
def checkByte (bs : List Byte) : Byte := -(bs.foldl (· + ·) 0)

/-- Whether a whole message's check is right (R59). -/
def checkRight (bs : List Byte) : Bool := bs.foldl (· + ·) (0 : Byte) == 0

def driveStateOfCode : Nat → Option DriveState
  | 0 => some .off
  | 1 => some .ready
  | 2 => some .active
  | 3 => some .fault
  | _ => none

def busStateOfCode : Nat → Option BusState
  | 0 => some .normal
  | 1 => some .low
  | 2 => some .high
  | _ => none

def driveOfNumber : Nat → Option DriveId
  | 0 => some .input
  | 1 => some .left
  | 2 => some .right
  | _ => none

/-- A status message as it is judged on arrival (R60): the drive and its report when the message is good for the
present cycle count, none when it is discarded. -/
def readStatus (cycle : Byte) (bs : List Byte) : Option (DriveId × DriveStatus) :=
  match bs with
  | [id, echo, state, bus, sh, sl, th, tl, _] =>
    match driveOfNumber id.toNat, driveStateOfCode state.toNat, busStateOfCode bus.toNat with
    | some d, some st, some bu =>
      if checkRight bs = true ∧ echo = cycle ∧ -5000 ≤ signed16 sh sl ∧ signed16 sh sl ≤ 5000 ∧
          -32767 ≤ signed16 th tl then
        some (d, ⟨st, signed16 sh sl, signed16 th tl, bu⟩)
      else none
    | _, _, _ => none
  | _ => none

/-- A status message formed as a drive sends it (R170), for the model's own tests and statements. -/
def formStatus (d : DriveId) (cycle : Byte) (state bus : Nat) (speed torque : Int) : List Byte :=
  let body := [byte (driveNumber d), cycle, byte state, byte bus] ++ beInt16 speed ++ beInt16 torque
  body ++ [checkByte body]

/-- One setpoint message (R58, R170). -/
def setpointMessage (d : DriveId) (cycle : Byte) (enable : Bool) (dm : Demand) : List Byte :=
  let torqueControl : Bool := d != .input
  let flags : Byte := flagByte enable + (if dm.direction = .rev then 2 else 0) + (if torqueControl then 4 else 0)
  let setpoint : Int := if torqueControl then dm.wheel else (dm.speed : Int)
  let limit : Nat := if torqueControl then Config.wheelTorqueLimit else dm.limit
  let body := [byte (driveNumber d), cycle, flags] ++ beInt16 setpoint ++ be16 limit
  body ++ [checkByte body]

/-! ## Sample words -/

/-- The signed value of a sample word (R171). -/
def sampleValue (w : SampleWord) : Int := (w.extractLsb' 1 16).toInt

/-- Whether the number of ones among the 17 bits is odd (R171). -/
def parityRight (w : SampleWord) : Bool :=
  (List.range 17).foldl (fun acc i => acc ^^ w.getLsbD i) false

end Sys2Proof.Machine
end

