-- ==== Sys2Proof/Machine/Flags.lean ====
section
/-! DEFINITION. What is derived from the state without being held in it: the outputs of the part (R4 to R7, R108, R159,
R169), standstill and the vented condition (R9), the record ON TEST (R148) and the status byte (R170). -/

namespace Sys2Proof.Machine

/-! ## Guards and outputs -/

/-- The axle is clamped while all four clamp inputs are high (spec/01, 1.2). -/
def clamped (g : GuardLevels) : Bool := g.clamp1 && g.clamp2 && g.clamp3 && g.clamp4

/-- ESTOP healthy, DOOR closed and the axle clamped. -/
def guardsGood (g : GuardLevels) : Bool := g.estop && g.door && clamped g

/-- READY, RUN, PAUSE and SETTLE: the modes in which drives may be enabled (R4) and STOP can be entered (R16). -/
def Mode.active : Mode → Bool
  | .ready => true
  | .run => true
  | .pause => true
  | .settle => true
  | .idle => false
  | .stop => false
  | .halt => false

/-- DRIVE ENABLE (R4). -/
def driveEnable (s : State) : Bool := s.mode.mode.active && guardsGood s.mode.guards

/-- UNCLAMP PERMIT (R5). -/
def unclampPermit (s : State) : Bool :=
  s.mode.mode == .idle && s.mode.seen.input && s.mode.seen.left && s.mode.seen.right

/-- IDLE, SETTLE, STOP and HALT: VENT is demanded and FILL is held closed (R6). -/
def Mode.vents : Mode → Bool
  | .idle => true
  | .settle => true
  | .stop => true
  | .halt => true
  | .ready => false
  | .run => false
  | .pause => false

/-- The Leak Controller's VENT demand by phase (R108). -/
def LeakPhase.vents : LeakPhase → Bool
  | .idle => true
  | .vent => true
  | .done => true
  | .fill => false
  | .settle => false
  | .measure => false
  | .wait => false

/-- VENT (R6, R108, R126). -/
def ventOutput (s : State) : Bool := s.mode.mode.vents || s.leak.phase.vents || s.zero.check.isSome

/-- FILL, true for open (R6, R108). -/
def fillOutput (s : State) : Bool := s.leak.phase == .fill && !s.mode.mode.vents

/-- DLOCK, true for locked (R7). -/
def dlock (s : State) : Bool :=
  match s.ctx with
  | some c => (s.mode.mode == .run || s.mode.mode == .pause) && diffLock c.copy c.step
  | none => false

/-! ## Standstill and vented -/

/-- A drive's held status (R65). -/
def held (s : State) (d : DriveId) : DriveStatus := (s.link.drives.get d).held

/-- The magnitude of a drive's held speed is 10 rpm or less (R65). -/
def driveAtRest (s : State) (d : DriveId) : Bool := (held s d).speed.natAbs ≤ Config.standstillSpeed

/-- All three held speeds are of magnitude 10 rpm or less (R65). -/
def atRest (s : State) : Bool := driveAtRest s .input && driveAtRest s .left && driveAtRest s .right

/-- The magnitude of the highest of the three held speeds (R47, R78). -/
def highestSpeed (s : State) : Nat :=
  max (held s .input).speed.natAbs (max (held s .left).speed.natAbs (held s .right).speed.natAbs)

/-- The vent threshold (R9, R115). -/
def ventThreshold (z : ZeroCheck) : Nat :=
  (if z.refValid then z.reference else Config.standInReference) + z.ventOffset

/-- The circuit is vented (R9). -/
def vented (s : State) : Bool :=
  match s.conv.lastP with
  | some p => p < ventThreshold s.zero
  | none => false

/-! ## Latches -/

/-- The value of a latch, none when it is CLEAR (R68). -/
def latchValue (s : State) (k : LatchKind) : Option Nat := s.sup.latches[k.index]

/-- Whether a latch is SET. -/
def latchSet (s : State) (k : LatchKind) : Bool := (latchValue s k).isSome

/-- Some STOP-class latch is set (R16); LINK LOSS is among them. -/
def stopLatchSet (s : State) : Bool := allLatches.any fun k => k.stopClass && latchSet s k

/-- Some latch is set (status byte bit 4, R170). -/
def anyLatchSet (s : State) : Bool := allLatches.any fun k => latchSet s k

/-! ## Records -/

/-- The record in a slot. -/
def recordAt (s : State) (i : Fin 16) : Option Record := s.queue.slots[i]

/-- Whether a slot holds a record of which something holds. -/
def slotHas (s : State) (p : Record → Bool) (i : Fin 16) : Bool :=
  match recordAt s i with
  | some r => p r
  | none => false

/-- The slot of the record ON TEST (R148). -/
def onTestSlot (s : State) : Option (Fin 16) := allSlots.find? (slotHas s fun r => r.state == .onTest)

/-- The record ON TEST. -/
def onTestRecord (s : State) : Option Record := (onTestSlot s).bind (recordAt s)

/-- The number of present records of which something holds. -/
def countRecords (s : State) (p : Record → Bool) : Nat := (allSlots.filter (slotHas s p)).length

/-- The number of present records. -/
def presentCount (s : State) : Nat := countRecords s fun _ => true

/-! ## Attention and the status byte -/

/-- One port's pending marks (R166). -/
def EventUnit.marks (u : EventUnit) : Port → Vector (Option Event) 11
  | .line => u.line
  | .cell => u.cell

/-- LATN or CATN: the port has a pending mark (R169). Data-out shows the same level before the first clock edge of a
frame (R159). -/
def attention (s : State) (p : Port) : Bool := allSources.any fun i => ((s.events.marks p)[i]).isSome

/-- The status byte of a port (R170). -/
def statusByte (s : State) (p : Port) : Byte :=
  byte ((if attention s p then 128 else 0) + (if s.mode.mode = .halt then 64 else 0) +
    (if s.mode.mode = .stop then 32 else 0) + (if anyLatchSet s then 16 else 0) +
    (if (onTestSlot s).isSome then 8 else 0) + (if presentCount s = 16 then 4 else 0) +
    (if countRecords s (fun r => r.zero == some .suspect) ≠ 0 then 2 else 0) + (if s.zero.refValid then 0 else 1))

/-! ## Monitor conditions -/

/-- A drive's torque magnitude (spec/05, 5.2). -/
def torqueOf (s : State) (d : DriveId) : Nat := (held s d).torque.natAbs

/-- The lowest drive whose held status has a property. -/
def lowestDrive (s : State) (p : DriveStatus → Bool) : Option DriveId := allDrives.find? fun d => p (held s d)

/-- The wheel drive that fails a condition on its torque magnitude, LEFT where both fail, with that magnitude. -/
def failingWheel (s : State) (p : Nat → Bool) : Option Nat :=
  if p (torqueOf s .left) then some (torqueOf s .left)
  else if p (torqueOf s .right) then some (torqueOf s .right)
  else none

/-- The phase is RAMP or HOLD. -/
def Phase.moving : Phase → Bool
  | .ramp => true
  | .hold => true
  | .reverse _ => false
  | .finish _ => false

/-- The reference of WHEEL OVERLOAD and its band (R73). -/
def wheelReference (s : State) : Nat × Nat :=
  match s.ctx with
  | some c =>
    if s.mode.mode == .run && c.phase.moving then (wheelTorque c.copy c.step, torqueBand c.copy c.step) else (0, 0)
  | none => (0, 0)

/-- A filtered monitor is active (R71 to R74). -/
def monitorActive (s : State) : FilteredMonitor → Bool
  | .overload => driveEnable s
  | .noReaction =>
    match s.ctx with
    | some c => driveEnable s && s.mode.mode == .run && c.phase == .hold && decide (500 ≤ wheelTorque c.copy c.step)
    | none => false
  | .wheelOverload => driveEnable s
  | .diff =>
    match s.ctx with
    | some c => driveEnable s && (s.mode.mode == .run || s.mode.mode == .pause) && diffLock c.copy c.step
    | none => false

/-- A filtered monitor's condition on the held values: the value its latch would take when the condition holds (R71 to
R74). -/
def monitorFails (s : State) : FilteredMonitor → Option Nat
  | .overload => if s.demand.limit < torqueOf s .input then some (torqueOf s .input) else none
  | .noReaction =>
    match s.ctx with
    | some c =>
      failingWheel s fun t => t * 100 < wheelTorque c.copy c.step * (100 - torqueBand c.copy c.step)
    | none => none
  | .wheelOverload =>
    failingWheel s fun t => (wheelReference s).1 * (100 + (wheelReference s).2) + 20000 < t * 100
  | .diff =>
    let apart := ((held s .left).speed - (held s .right).speed).natAbs
    if 5 < apart then some apart else none

/-- Any held bus state is not NORMAL: the condition of SUPPLY (R79). -/
def supplyBad (s : State) : Bool := (lowestDrive s fun h => h.bus != .normal).isSome

/-- The id that a SUPPLY latch or entry carries (R79, R80); 0 where no held bus state is out of range (log entry 15). -/
def supplyDrive (s : State) : Nat := ((lowestDrive s fun h => h.bus != .normal).map driveNumber).getD 0

/-- The current step index, for a fault list entry (R82); 0 with no test context. -/
def currentStep (s : State) : Nat := (s.ctx.map TestContext.step).getD 0

end Sys2Proof.Machine
end

