-- ==== Sys2Proof/Machine/Ops.lean ====
section
/-! DEFINITION. The shared operations that reach one block each: raising an event (R167), posting to the record ON TEST
(R150, R151), the converter's requests, grants and withdrawals (R137 to R141), timers, the held reply of a port. -/

namespace Sys2Proof.Machine

/-! ## Open orders -/

/-- Two effects of one event whose order the spec does not give (log entry 5): where the order matters, the free value
Config.takenFirst says whether `f` comes first; where it does not, `f` comes first. -/
def eitherOrder (matters : Bool) (f g : State → State) (s : State) : State :=
  if matters then
    let s' := s.withOrders (s.orders + 1)
    if Config.takenFirst s.orders then g (f s') else f (g s')
  else g (f s)

/-! ## Events -/

/-- A route reaches a port. -/
def Route.has : Route → Port → Bool
  | .none, _ => false
  | .line, .line => true
  | .line, .cell => false
  | .cell, .line => false
  | .cell, .cell => true
  | .both, _ => true

/-- Raise an event: each port in its source's route gets the mark with this detail (R167). -/
def raise (e : Event) (s : State) : State :=
  let u := s.events
  s.withEvents
    { u with
      line := if (u.routes[e.source]).has .line then u.line.set e.source (some e) else u.line
      cell := if (u.routes[e.source]).has .cell then u.cell.set e.source (some e) else u.cell }

/-! ## Records -/

/-- Change the record in a slot; an empty slot stays empty. -/
def modifyRecord (i : Fin 16) (f : Record → Record) (s : State) : State :=
  match recordAt s i with
  | some r => s.withQueue { s.queue with slots := s.queue.slots.set i (some (f r)) }
  | none => s

/-- Empty a slot (R155). -/
def removeRecord (i : Fin 16) (s : State) : State :=
  s.withQueue { s.queue with slots := s.queue.slots.set i none }

/-- Change every present record. -/
def modifyAll (f : Record → Record) (s : State) : State :=
  s.withQueue
    { s.queue with slots := ⟨⟨s.queue.slots.toArray.toList.map (Option.map f)⟩, by simp⟩ }

/-- A post reaches the record that is ON TEST at its event, and is dropped where none is (R150). -/
def post (f : Record → Record) (s : State) : State :=
  match onTestSlot s with
  | some i => modifyRecord i f s
  | none => s

/-- A post to the run-in section (R55). -/
def postRunIn (f : RunInSection → RunInSection) : State → State := post fun r => { r with runIn := r.runIn.map f }

/-- A post to the noise section (R102). -/
def postNoise (f : NoiseSection → NoiseSection) : State → State := post fun r => { r with noise := r.noise.map f }

/-- A post to the leak section (R121, R122). -/
def postLeak (f : LeakSection → LeakSection) : State → State := post fun r => { r with leak := r.leak.map f }

/-- A fault kind is of axle class (R151); every other kind of a fault list entry is of equipment class. -/
def FaultKind.axle : FaultKind → Bool
  | .latch k =>
    match k with
    | .overload | .noReaction | .wheelOverload | .diff | .oilShutdown => true
    | .oilPrewarn | .sensor | .tempStale | .driveFault | .linkLoss | .noStop | .supply | .estop | .guard | .clamp => false
  | .noiseExceed _ _ _ => true
  | .leakGross => true
  | .leakRate => true
  | .zeroFail => false
  | .aborted => false
  | .cellClear => false

/-- The overflow mark after an entry that is not stored (R151). -/
def Overflow.add (o : Overflow) (axle : Bool) : Overflow :=
  match o, axle with
  | .axle, _ => .axle
  | _, true => .axle
  | _, false => .equipment

/-- Append an entry to a record's fault list of at most 6 entries (R151). -/
def appendEntry (e : FaultEntry) (r : Record) : Record :=
  if r.faults.length < 6 then { r with faults := r.faults ++ [e] }
  else { r with overflow := r.overflow.add e.kind.axle }

/-- Ask the Record Queue to append an entry of a kind and a value, with the current step index (R82, R151). -/
def appendFault (kind : FaultKind) (value : Nat) (s : State) : State :=
  post (appendEntry ⟨kind, currentStep s, value⟩) s

/-! ## Converter -/

/-- The positions that a search looks at, in order (R139). -/
def searchOrder : Option Requester → List Requester
  | none => [.leak, .zero, .oil, .spot]
  | some .leak => [.zero, .oil, .spot, .leak]
  | some .zero => [.oil, .spot, .leak, .zero]
  | some .oil => [.spot, .leak, .zero, .oil]
  | some .spot => [.leak, .zero, .oil, .spot]

/-- The search after a pointer for a pending requester of a class (R139). -/
def searchAfter (a : Arbiter) (pointer : Option Requester) (c : Class) : Option Requester :=
  (searchOrder pointer).find? fun r => (a.waiting.get r).isSome && a.classes.get r == c

/-- A grant in the HIGH rotation wraps (R139). -/
def wraps (pointer : Option Requester) (r : Requester) : Bool :=
  match pointer with
  | some h => position r ≤ position h
  | none => false

/-- The pending request of a requester becomes the conversion in progress, and a burst its burst (R137). -/
def takeRequest (r : Requester) (a : Arbiter) : Arbiter :=
  match a.waiting.get r with
  | some (.single c) => { a with waiting := a.waiting.set r none, inProgress := some ⟨r, c, true⟩ }
  | some (.burst cs) =>
    { a with
      waiting := a.waiting.set r none
      inProgress := cs.head?.map fun c => ⟨r, c, true⟩
      owner := some ⟨r, cs⟩ }
  | none => a

/-- Steps 2 to 5 of the grant rule (R139), with no burst owner. -/
def grantRequest (a : Arbiter) : Arbiter :=
  match (if a.lowDue then searchAfter a a.low .low else none) with
  | some r => takeRequest r { a with low := some r, lowDue := false }
  | none =>
    match searchAfter a a.high .high with
    | some r => takeRequest r { a with high := some r, lowDue := a.lowDue || wraps a.high r }
    | none =>
      match searchAfter a a.low .low with
      | some r => takeRequest r { a with low := some r }
      | none => a

/-- The grant rule on an idle converter (R139): a burst owner with conversions left keeps the converter, else a request
is granted. An owner with none left is cleared (R140, R141). -/
def grant (a : Arbiter) : Arbiter :=
  match a.owner with
  | some ⟨r, c :: _⟩ => { a with inProgress := some ⟨r, c, true⟩ }
  | _ => grantRequest { a with owner := none }

/-- A request arrives (R137): it waits, and is granted at once when the converter is idle (R139). -/
def Arbiter.request (r : Requester) (q : Request) (a : Arbiter) : Arbiter :=
  let a := { a with waiting := a.waiting.set r (some q) }
  if a.inProgress.isNone && a.owner.isNone then grant a else a

/-- A requester withdraws (R141): its pending request is removed, its conversion in progress is no longer expected, and
its burst has nothing left. -/
def Arbiter.withdraw (r : Requester) (a : Arbiter) : Arbiter :=
  { a with
    waiting := a.waiting.set r none
    inProgress := a.inProgress.map fun c => if c.requester = r then { c with expected := false } else c
    owner := a.owner.map fun o => if o.requester = r then { o with remaining := [] } else o }

/-- Place a request. -/
def request (r : Requester) (q : Request) (s : State) : State := s.withConv (s.conv.request r q)

/-- Withdraw a requester's request. -/
def withdraw (r : Requester) (s : State) : State := s.withConv (s.conv.withdraw r)

/-- Place a request unless the requester's previous one is still pending (R76, R109). -/
def requestUnlessPending (r : Requester) (q : Request) (s : State) : State :=
  if (s.conv.waiting.get r).isSome then s else request r q s

/-! ## Timers -/

/-- A timer runs. -/
def Timer.isRunning : Timer → Bool
  | .running _ => true
  | .stopped => false

/-- A timer runs with less than its full time left. One that stands at its full time has been started anew, and no millisecond has passed
since (R76, R88). -/
def Timer.hasRun (full : Nat) : Timer → Bool
  | .running n => decide (n < full)
  | .stopped => false

/-- A timer after a span of its unit. -/
def Timer.pass (n : Nat) : Timer → Timer
  | .running r => .running (r - n)
  | .stopped => .stopped

/-- The standstill timer runs. -/
def HoldTimer.isRunning : HoldTimer → Bool
  | .running _ => true
  | .held _ => false
  | .stopped => false

/-- The standstill timer after a span; a held timer keeps its time (R43). -/
def HoldTimer.pass (n : Nat) : HoldTimer → HoldTimer
  | .running r => .running (r - n)
  | .held r => .held r
  | .stopped => .stopped

/-- Hold a running standstill timer at its remaining time (R43). -/
def HoldTimer.hold : HoldTimer → HoldTimer
  | .running r => .held r
  | .held r => .held r
  | .stopped => .stopped

/-- A held standstill timer runs on from its remaining time (R43). -/
def HoldTimer.resume : HoldTimer → HoldTimer
  | .held r => .running r
  | .running r => .running r
  | .stopped => .stopped

/-! ## Ports -/

/-- One port. -/
def Ports.get (x : Ports) : Port → PortState
  | .line => x.line
  | .cell => x.cell

/-- Replace one port. -/
def Ports.set (x : Ports) (p : Port) (y : PortState) : Ports :=
  match p with
  | .line => { x with line := y }
  | .cell => { x with cell := y }

/-- A frame end closes the frame and replaces the held reply (R160, R161). -/
def reply (p : Port) (r : Reply) (s : State) : State := s.withPorts (s.ports.set p ⟨r, .idle⟩)

/-- A frame end that closes the frame and keeps the held reply (R160, first row). -/
def closeFrame (p : Port) (s : State) : State := s.withPorts (s.ports.set p ⟨(s.ports.get p).held, .idle⟩)

end Sys2Proof.Machine
end

