-- ==== Sys2Proof/Machine/LeakOps.lean ====
section
/-! DEFINITION. The Leak Controller's shared operations (spec/07): entering FILL and VENT, quiet openings, interruptions,
the bursts and the compensated rate. -/

namespace Sys2Proof.Machine

/-- The burst counts and sums are cleared (R109, R113). -/
def clearBurst (l : LeakController) : LeakController :=
  { l with pCount := 0, taCount := 0, pSum := 0, taSum := 0, rangeMark := false }

/-- The event leaves the present phase: every leak timer stops, LEAK withdraws its request or burst, and the counts and
sums of a burst in progress are cleared (R109, R118, R119). DESIGN CHOICE (log entry 34): the range mark is cleared with
them. -/
def leakLeave (s : State) : State :=
  let s := withdraw .leak s
  let l := if s.leak.burst.isSome then clearBurst s.leak else s.leak
  s.withLeak { l with fill := .stopped, settle := .stopped, measure := .stopped, request := .stopped, burst := none }

/-- Entry into VENT from another phase (R115): the single P requests of R109 begin at once. -/
def leakEnterVent (s : State) : State :=
  let s := leakLeave s
  let s := s.withLeak { s.leak with phase := .vent, request := .running Config.leakRequestMs }
  requestUnlessPending .leak (.single .p) s

/-- A test with a leak section is running (R119). -/
def leakTestRunning (s : State) : Bool :=
  match s.ctx with
  | some c => leakEnabled c.copy
  | none => false

/-- At an event of R119 an outcome still none of a running test becomes NOT DECIDED, without a post. -/
def leakUndecided (s : State) : State :=
  if leakTestRunning s && s.leak.outcome.isNone then s.withLeak { s.leak with outcome := some .notDecided } else s

/-- The events of R119: the timers stop, a pending request or a burst is withdrawn (R141), and the phase becomes VENT. In VENT
already it stays VENT, and its request timer runs on (R115). -/
def leakToVent (s : State) : State :=
  let s := leakUndecided s
  if s.leak.phase = .vent then
    let s' := leakLeave s
    s'.withLeak { s'.leak with request := s.leak.request }
  else leakEnterVent s

/-- The set-up of the Leak Controller at START (R110). -/
def leakSetUp (s : State) : State :=
  let s := leakLeave s
  s.withLeak { s.leak with phase := .idle, attempts := 0, outcome := none, startValues := none, lastFill := none }

/-- An attempt begins with FILL (R110, R117). -/
def leakEnterFill (c : TestContext) (attempt : Nat) (s : State) : State :=
  let s := leakLeave s
  let s :=
    s.withLeak
      { s.leak with
        phase := .fill, attempts := attempt, lastFill := none
        fill := .running (fillTimeout c.copy * 100), request := .running Config.leakRequestMs }
  let s := postLeak (fun l => { l with attempts := attempt }) s
  requestUnlessPending .leak (.single .p) s

/-- The post of the present attempt's end reason (R116, R121). -/
def postEndReason (attempt : Nat) (why : EndReason) (s : State) : State :=
  postLeak (fun l => if attempt = 1 then { l with endOf1 := some why } else { l with endOf2 := some why }) s

/-- The leak outcome is set and posted (R121). -/
def setLeakOutcome (o : LeakOutcome) (s : State) : State :=
  postLeak (fun l => { l with outcome := some o }) (s.withLeak { s.leak with outcome := some o })

/-- An interruption of the attempt (R116). -/
def leakInterrupt (why : EndReason) (s : State) : State :=
  let attempt := s.leak.attempts
  let s := postEndReason attempt why (leakLeave s)
  if attempt = 1 then s.withLeak { s.leak with phase := .wait }
  else leakEnterVent (setLeakOutcome .notDecided s)

/-- The phase in which a non-quiet step start or a PAUSE interrupts the attempt (R112, R113, R116). -/
def leakInterruptible (l : LeakController) : Bool :=
  l.phase == .measure || (l.phase == .settle && l.settle.isRunning)

/-- A quiet opening (R112, R117): it starts a stopped settle timer in SETTLE and begins attempt 2 in WAIT. -/
def leakQuietOpening (c : TestContext) (s : State) : State :=
  match s.leak.phase with
  | .settle =>
    if s.leak.settle.isRunning then s
    else s.withLeak { s.leak with settle := .running (leakSettleTime c.copy * 100) }
  | .wait => leakEnterFill c 2 s
  | .idle | .fill | .measure | .vent | .done => s

/-- The report of a step start in RUN (R42): the trigger (R110), a quiet opening (R112, R117) or an interruption
(R116). `first` is the first-start indication. -/
def leakStepStart (c : TestContext) (first : Bool) (s : State) : State :=
  if s.leak.phase = .idle then
    if leakEnabled c.copy = true ∧ first = true ∧ c.step = triggerStep c.copy then leakEnterFill c 1 s else s
  else if leakQuiet c.copy c.step then leakQuietOpening c s
  else if leakInterruptible s.leak then leakInterrupt .step s
  else s

/-- The entry to PAUSE (R116). -/
def leakPause (s : State) : State := if leakInterruptible s.leak then leakInterrupt .pause s else s

/-- The entry into FINISH (R118). -/
def leakFinish (s : State) : State :=
  match s.leak.phase with
  | .fill | .settle | .measure | .wait =>
    let attempt := s.leak.attempts
    let s := postEndReason attempt .finish (leakLeave s)
    leakEnterVent (setLeakOutcome .notDecided s)
  | .idle | .vent | .done => s

/-- A LEAK reading of P in FILL (R111). The mode RUN and a quiet step start the settle timer at the entry into SETTLE
(R112). -/
def leakFillReading (v : Nat) (s : State) : State :=
  match s.ctx with
  | none => s
  | some c =>
    let s := s.withLeak { s.leak with lastFill := some v }
    if v < fillTarget c.copy then s
    else
      let s := leakLeave s
      let s := s.withLeak { s.leak with phase := .settle }
      if s.mode.mode == .run && leakQuiet c.copy c.step then leakQuietOpening c s else s

/-- The held burst of n conversions of P and then n of TA (R109, R137). -/
def leakBurst (n : Nat) : Request := .burst (List.replicate n .p ++ List.replicate n .ta)

/-- A burst is asked for: START at the entry into MEASURE, END at the end of the measuring span (R113). -/
def leakAskBurst (c : TestContext) (kind : BurstKind) (s : State) : State :=
  let s := s.withLeak { clearBurst s.leak with burst := some kind }
  request .leak (leakBurst (burstLength c.copy)) s

/-- A burst average, rounded to the nearest whole number with a half rounded up (R113). -/
def burstAverage (sum n : Nat) : Nat := (sum + n / 2) / n

/-- The expected end pressure (R114 step 1). -/
def expectedPressure (a e : PressureTemp) : Nat :=
  (a.pressure * e.temperature + a.temperature / 2) / a.temperature

/-- The leak rate, none when the loss is 0 or below, where the rate is 0 and the RISE note is set (R114 step 3). -/
def leakRate (a e : PressureTemp) (measureMs : Nat) : Option Nat :=
  if expectedPressure a e ≤ e.pressure then none
  else some (min 65535 (((expectedPressure a e - e.pressure) * 60000 + measureMs / 2) / measureMs))

/-- The computation at the end burst's completion (R114). -/
def leakCompute (c : TestContext) (a e : PressureTemp) (s : State) : State :=
  let rate := (leakRate a e (measureTime c.copy)).getD 0
  let rise := (leakRate a e (measureTime c.copy)).isNone
  let s := postLeak (fun l => { l with rate := some rate, rise := rise }) s
  let s := postEndReason s.leak.attempts .completed s
  let s :=
    if rateLimit c.copy < rate then setLeakOutcome .fail (appendFault .leakRate rate s) else setLeakOutcome .pass s
  leakEnterVent s

/-- A burst whose counts have both reached n is complete (R113 steps 3 to 5). DESIGN CHOICE (log entry 38): it is no longer in progress
then; a good burst leaves its counts and sums as they are, also into VENT, and a sensor failure clears them. -/
def leakBurstDone (c : TestContext) (kind : BurstKind) (s : State) : State :=
  if s.leak.rangeMark then leakInterrupt .sensor s
  else
    let n := burstLength c.copy
    let v : PressureTemp := ⟨burstAverage s.leak.pSum n, burstAverage s.leak.taSum n⟩
    let s := s.withLeak { s.leak with burst := none }
    match kind with
    | .start =>
      let s := s.withLeak { s.leak with startValues := some v, measure := .running (measureTime c.copy) }
      postLeak (fun l => { l with startValues := some v }) s
    | .finish =>
      let s := postLeak (fun l => { l with endValues := some v }) s
      match s.leak.startValues with
      | some a => leakCompute c a v s
      | none => s

/-- A temperature in range (R55, R77, R113). -/
def temperatureInRange (v : Nat) : Bool := decide (Config.temperatureLow ≤ v ∧ v ≤ Config.temperatureHigh)

/-- A conversion of the burst (R113 step 2). -/
def leakAddConversion (ch : Channel) (v : Nat) (l : LeakController) : LeakController :=
  match ch with
  | .p => { l with pSum := l.pSum + v, pCount := l.pCount + 1 }
  | .ta =>
    { l with taSum := l.taSum + v, taCount := l.taCount + 1, rangeMark := l.rangeMark || !temperatureInRange v }
  | .to => l

/-- A LEAK conversion that its requester still expects (R111, R113). A phase that expects none adds it to nothing (R109);
VENT judges every P reading on its own (R115). -/
def leakReading (ch : Channel) (v : Nat) (s : State) : State :=
  match s.leak.phase with
  | .fill => if ch = .p then leakFillReading v s else s
  | .measure =>
    match s.ctx, s.leak.burst with
    | some c, some kind =>
      let s := s.withLeak (leakAddConversion ch v s.leak)
      if s.leak.pCount = burstLength c.copy ∧ s.leak.taCount = burstLength c.copy then leakBurstDone c kind s else s
    | _, _ => s
  | .idle | .settle | .wait | .vent | .done => s

end Sys2Proof.Machine
end

