-- ==== Sys2Proof/Machine/MonitorOps.lean ====
section
/-! DEFINITION. The filtered monitors' judgement (R69, R71 to R74), the fall of DRIVE ENABLE (R76, R77, R86), and the end of
what other blocks hold of a test: the open analysis block (R91) and the zero check (R135). -/

namespace Sys2Proof.Machine

/-- Set one filtered monitor's timer. -/
def setFilter (m : FilteredMonitor) (t : Timer) (s : State) : State :=
  s.withSup { s.sup with filters := s.sup.filters.set m t }

/-- One filtered monitor judges its condition on the held values (R69): its timer runs only while it is active, its
latch is CLEAR and its condition holds, and a timer that runs already runs on. -/
def judgeOne (s : State) (m : FilteredMonitor) : State :=
  if monitorActive s m && !latchSet s (monitorLatch m) && (monitorFails s m).isSome then
    if (s.sup.filters.get m).isRunning then s else setFilter m (.running (filterMs m)) s
  else setFilter m .stopped s

/-- The filtered monitors judge their conditions. Between the events that R69 names nothing that a condition or an
activity reads changes, so judging all of them at each such event is judging each at its own. -/
def judgeMonitors (s : State) : State := allMonitors.foldl judgeOne s

/-- An event that changes WHEEL OVERLOAD's reference: its timer is stopped and the condition judged anew (R73). -/
def referenceChange (s : State) : State := judgeMonitors (setFilter .wheelOverload .stopped s)

/-- A step start: DIFF's timer is stopped and the held speeds are judged with the new step (R74); NO REACTION has become
inactive (R72); the reference changes (R73). -/
def monitorsStepStart (s : State) : State := referenceChange (setFilter .diff .stopped (setFilter .noReaction .stopped s))

/-- What the fall of DRIVE ENABLE does (R69, R76, R77, R86). -/
def driveEnableFell (s : State) : State :=
  let s := withdraw .oil s
  s.withSup
    { s.sup with
      filters := ⟨.stopped, .stopped, .stopped, .stopped⟩, oilCount := 0, oilRequest := .stopped, stale := .stopped }

/-- The open block is abandoned without being counted (R91). -/
def abandonBlock (s : State) : State := s.withNoise { s.noise with block := none }

/-- A check in progress is abandoned (R135). -/
def abandonCheck (s : State) : State :=
  match s.zero.check with
  | some k =>
    let s := withdraw .zero s
    let s := s.withZero { s.zero with check := none, timer := .stopped }
    raise (.zero k.kind .abandoned 0) s
  | none => s

/-- A check in progress of one kind is abandoned (R135). -/
def abandonCheckOf (p : CheckKind → Bool) (s : State) : State :=
  match s.zero.check with
  | some k => if p k.kind then abandonCheck s else s
  | none => s

end Sys2Proof.Machine
end

