-- ==== Sys2Proof/Machine/TestOps.lean ====
section
/-! DEFINITION. Ending a test: the decision with its verdict (R105, R152, R153), the end of the test context (R54), mode
changes, the entries to STOP, HALT and SETTLE (R14, R16, R18), latching (R70), reaching a target (R13), the entry to
PAUSE (R49) and the supply judgement (R79). -/

namespace Sys2Proof.Machine

/-! ## Decision -/

/-- A peak of a used slot stands above a non-zero limit of its own (R105, FAIL). -/
def peakAboveLimit (c : Items) (n : NoiseSection) : Bool :=
  (List.range 128).any fun i =>
    order c (i / 32) != 0 && limitAt c i != 0 && decide (limitAt c i < n.peaks[i]?.getD 0)

/-- Some (flank, bin) with a non-zero limit in a used slot has its coverage mark clear (R105, INCOMPLETE). -/
def coverageMissing (c : Items) (n : NoiseSection) : Bool :=
  (List.range 128).any fun i =>
    order c (i / 32) != 0 && limitAt c i != 0 && !(n.coverage[i % 32]?.getD false)

/-- The noise outcome (R105). -/
def noiseOutcome (c : Items) (n : NoiseSection) : NoiseOutcome :=
  if peakAboveLimit c n then .fail else if coverageMissing c n then .incomplete else .pass

/-- A section's noise outcome as the verdict reads it. -/
def recordNoise (r : Record) : Option NoiseOutcome := r.noise.bind NoiseSection.outcome

/-- A section's leak outcome as the verdict reads it. -/
def recordLeak (r : Record) : Option LeakOutcome := r.leak.bind LeakSection.outcome

/-- The verdict (R153). -/
def deriveVerdict (r : Record) : Verdict :=
  if (r.faults.any fun e => e.kind.axle) || r.overflow == .axle || recordNoise r == some .fail ||
      recordLeak r == some .fail then .fail
  else if (r.faults.any fun e => !e.kind.axle) || r.overflow == .equipment || recordNoise r == some .incomplete ||
      recordLeak r == some .notDecided then .noDecision
  else .pass

/-- The leak outcome at the decision: NOT DECIDED where it is absent (R152 step 1). -/
def fixLeak (l : LeakSection) : LeakSection :=
  if l.outcome.isNone then { l with outcome := some .notDecided } else l

/-- The noise outcome at the decision (R152 step 2), from the working copy of the test. -/
def fixNoise (ctx : Option TestContext) (n : NoiseSection) : NoiseSection :=
  match ctx with
  | some c => { n with outcome := some (noiseOutcome c.copy n) }
  | none => n

/-- A record as the decision leaves it (R152). -/
def decided (ctx : Option TestContext) (r : Record) : Record :=
  let r := { r with leak := r.leak.map fixLeak, noise := r.noise.map (fixNoise ctx) }
  { r with verdict := some (deriveVerdict r), state := .decided }

/-- The unchecked count after a decision (R128). -/
def countUnchecked (r : Record) (z : ZeroCheck) : ZeroCheck :=
  if r.zero = some .unchecked then { z with unchecked := min 255 (z.unchecked + 1) } else z

/-- The test context ends (R40, R54): its timers and state are discarded, the open block is abandoned (R91), the oil
shutdown count becomes 0 (R77), and the monitors judge without a context (R73, R86). -/
def endContext (s : State) : State :=
  match s.ctx with
  | some _ =>
    let s := abandonBlock (s.withCtx none)
    referenceChange (s.withSup { s.sup with oilCount := 0 })
  | none => s

/-- The decision of the record ON TEST (R152), with what it hands on: the unchecked count (R128), an END OF TEST check
that it cuts short (R135) and the end of the test context. -/
def endTest (s : State) : State :=
  match onTestSlot s with
  | some i =>
    match recordAt s i with
    | some r =>
      let s' := modifyRecord i (decided s.ctx) s
      let s' := raise (.verdict i) s'
      let s' := s'.withZero (countUnchecked r s'.zero)
      endContext (abandonCheckOf (· == .endOfTest) s')
    | none => endContext s
  | none => endContext s

/-! ## Mode changes -/

/-- Whether a check of a kind goes on in a mode (R135). An END OF TEST check ends with its record, not with a mode. -/
def checkSurvives (m : Mode) : CheckKind → Bool
  | .capture => m == .idle
  | .command => m == .idle || m == .ready
  | .endOfTest => true

/-- The cell mode changes. What each mode's leaving ends follows at the same event: the open block on leaving RUN (R91),
the pause kind and the supply pause timer on leaving PAUSE (R1, R80), the settle timer on leaving SETTLE (R14), a check
that the new mode abandons (R135), and what the fall of DRIVE ENABLE stops (R76). -/
def setMode (m : Mode) (s : State) : State :=
  let was := driveEnable s
  let old := s.mode.mode
  let s := if old = .run ∧ m ≠ .run then abandonBlock s else s
  let s := if old = .pause ∧ m ≠ .pause then s.withSup { s.sup with supplyPause := .stopped } else s
  let s := abandonCheckOf (fun k => !checkSurvives m k) s
  let s :=
    s.withMode
      { s.mode with
        mode := m
        pauseKind := if m = .pause then s.mode.pauseKind else .none
        settleTimer := if m = .settle then s.mode.settleTimer else .stopped }
  if was && !driveEnable s then driveEnableFell s else s

/-- The mode of a target. -/
def Target.mode : Target → Mode
  | .idle => .idle
  | .ready => .ready

/-- A pending target is dropped with its MODE event (R16). -/
def dropTarget (s : State) : State :=
  match s.mode.target with
  | some t => raise (.mode t.mode .dropped) (s.withMode { s.mode with target := none })
  | none => s

/-- The demand at the entry to STOP or HALT (R39). -/
def demandStopped (d : Demand) : Demand := { d with speed := 0, wheel := 0, ramp := none }

/-- The effects of an entry to STOP (R16), which an entry to HALT shares (R18). -/
def enterStopped (m : Mode) (s : State) : State :=
  let s := leakToVent s
  let s := dropTarget s
  let s := endTest s
  let s := setMode m s
  judgeMonitors (s.withDemand (demandStopped s.demand))

/-- A cause of STOP (R16): in READY, RUN, PAUSE and SETTLE it enters STOP; in STOP, IDLE and HALT it enters nothing. -/
def stopCause (s : State) : State := if s.mode.mode.active then enterStopped .stop s else s

/-- The entry to HALT (R18), with the mode that was left as the HALT event's detail. -/
def enterHalt (s : State) : State := enterStopped .halt (raise (.halt s.mode.mode) s)

/-! ## Latching -/

/-- Set a latch to a value. -/
def storeLatch (k : LatchKind) (v : Nat) (s : State) : State :=
  s.withSup { s.sup with latches := s.sup.latches.set k.index (some v) }

/-- The filter timer of a filtered monitor stops at its latching (R69). -/
def stopFilterOf (k : LatchKind) (s : State) : State :=
  match k with
  | .overload => setFilter .overload .stopped s
  | .noReaction => setFilter .noReaction .stopped s
  | .wheelOverload => setFilter .wheelOverload .stopped s
  | .diff => setFilter .diff .stopped s
  | .oilPrewarn | .oilShutdown | .sensor | .tempStale | .driveFault | .linkLoss | .noStop | .supply | .estop | .guard
  | .clamp => s

/-- A report to latch (R70). A latch that is CLEAR is set with its value, appended to the record ON TEST unless it is OIL
PREWARN, and raised as a FAULT event; one that is SET keeps its value. A STOP-class cause is reported either way. -/
def latch (k : LatchKind) (v : Nat) (s : State) : State :=
  let s :=
    if latchSet s k then s
    else
      let s := stopFilterOf k (storeLatch k v s)
      let s := if k = .oilPrewarn then s else appendFault (.latch k) v s
      raise (.fault k v) s
  if k.stopClass then stopCause s else s

/-! ## Targets -/

/-- The completion condition of a pending target (R13). -/
def targetComplete (s : State) : Bool :=
  match s.mode.mode, s.mode.target with
  | .settle, some _ => atRest s && vented s
  | .stop, some .idle => !stopLatchSet s && atRest s && vented s
  | _, _ => false

/-- The completion check of a pending target (R13). A settle ramp that still runs when the target is reached ends at that
event, so that the setpoint is 0 in IDLE and READY (R39, R58). DESIGN CHOICE (log entry 12). -/
def completionCheck (s : State) : State :=
  match s.mode.target with
  | some t =>
    if targetComplete s then
      let s := setMode t.mode (s.withDemand (demandStopped s.demand))
      let s := raise (.mode t.mode .reached) (s.withMode { s.mode with target := none })
      judgeMonitors s
    else s
  | none => s

/-- A demand ramp is started (R41); one of length 0 sets the setpoint at once. -/
def startRamp (target length : Nat) (d : Demand) : Demand :=
  if length = 0 then { d with speed := target, ramp := none }
  else { d with ramp := some ⟨d.speed, target, length, 0⟩ }

/-- The entry to SETTLE (R14), with the completion check that R13 makes at it. -/
def enterSettle (t : Target) (s : State) : State :=
  let s := setMode .settle (leakToVent s)
  let s := s.withMode { s.mode with target := some t, settleTimer := .running Config.settleMs }
  let s := s.withDemand { startRamp 0 Config.restRampMs s.demand with wheel := 0 }
  completionCheck (judgeMonitors s)

/-! ## PAUSE -/

/-- Freeze a running step timer at its remaining time (R49). -/
def StepTimer.freeze : StepTimer → StepTimer
  | .running r => .frozen r
  | .frozen r => .frozen r
  | .unloaded => .unloaded

/-- The phase is FINISH. -/
def Phase.isFinish : Phase → Bool
  | .finish _ => true
  | .reverse _ => false
  | .ramp => false
  | .hold => false

/-- The entry to PAUSE on the test context and the demand (R49); in FINISH nothing changes. -/
def pauseRunIn (s : State) : State :=
  match s.ctx with
  | some c =>
    if c.phase.isFinish then s
    else
      let s := s.withCtx (some { c with stepTimer := c.stepTimer.freeze })
      s.withDemand { startRamp 0 Config.restRampMs s.demand with wheel := 0 }
  | none => s

/-- The entry to PAUSE (R12, R15, R49), with the interruption of the leak attempt (R116) and the supply pause timer of a
supply pause (R80). -/
def enterPause (k : PauseKind) (s : State) : State :=
  let s := setMode .pause s
  let s := s.withMode { s.mode with pauseKind := k }
  let s := if k = .supply then s.withSup { s.sup with supplyPause := .running Config.supplyPauseMs } else s
  referenceChange (leakPause (pauseRunIn s))

/-- SUPPLY judges its condition (R79): latched when it holds, and a supply pause where the mode is RUN. -/
def supplyJudge (s : State) : State :=
  if driveEnable s && supplyBad s then
    let s := latch .supply (supplyDrive s) s
    if s.mode.mode = .run then enterPause .supply s else s
  else s

/-- SUPPLY's judgement changes something: it latches or it requests a supply pause (R79). -/
def supplyActs (s : State) : Bool :=
  driveEnable s && supplyBad s && (!latchSet s .supply || s.mode.mode == .run)

/-- DRIVE FAULT at the assertion of DRIVE ENABLE (R75): the lowest drive that holds FAULT. -/
def driveFaultJudge (s : State) : State :=
  match lowestDrive s fun h => h.state == .fault with
  | some d => if driveEnable s && !latchSet s .driveFault then latch .driveFault (driveNumber d) s else s
  | none => s

/-- The assertion of DRIVE ENABLE: the oil timers and the first OIL request (R76), the filtered monitors (R69), DRIVE
FAULT (R75) and SUPPLY (R79). The spec gives no order between the last two, and it matters where both act. DESIGN CHOICE (log entry
37): the first OIL request is placed, and granted to an idle converter, before DRIVE FAULT's STOP can withdraw it (R141). -/
def driveEnableRose (s : State) : State :=
  let s :=
    s.withSup
      { s.sup with
        oilRequest := .running Config.oilRequestMs
        stale := if latchSet s .tempStale then .stopped else .running Config.staleMs }
  let s := judgeMonitors (requestUnlessPending .oil (.single .to) s)
  let faulted := (lowestDrive s fun h => h.state == .fault).isSome && !latchSet s .driveFault
  eitherOrder (faulted && supplyActs s) driveFaultJudge supplyJudge s

end Sys2Proof.Machine
end

