-- ==== Sys2Proof/Machine/SequenceOps.lean ====
section
/-! DEFINITION. The test's way through its steps: step starts, REVERSE, RAMP, HOLD, completions and loops (R42 to R48), FINISH
and the end-of-test path (R52, R53), RESUME (R50), and what each accepted status message does (R43, R52, R55, R66, R67). -/

namespace Sys2Proof.Machine

/-! ## REVERSE -/

/-- The standstill and dwell checks of REVERSE on the held speeds (R43). -/
def reversalCheck (s : State) : State :=
  match s.ctx with
  | some c =>
    match c.phase with
    | .reverse .standstillWait =>
      if atRest s then
        s.withCtx
          (some { c with
            phase := .reverse .dwell, dwell := .running Config.dwellMs, standstill := c.standstill.hold })
      else s
    | .reverse .dwell =>
      if atRest s then s
      else
        s.withCtx
          (some { c with phase := .reverse .standstillWait, dwell := .stopped, standstill := c.standstill.resume })
    | .reverse .rampDown | .ramp | .hold | .finish _ => s
  | none => s

/-- The entry into STANDSTILL WAIT of a reversal (R43), checked at once. -/
def reversalWait (c : TestContext) (s : State) : State :=
  reversalCheck
    (s.withCtx (some { c with phase := .reverse .standstillWait, standstill := .running Config.standstillMs }))

/-- The entry into REVERSE (R43): RAMP DOWN from a setpoint above 0, else STANDSTILL WAIT. A RAMP TIME of 0 ends its ramp at
the entry itself (R41). -/
def enterReverse (c : TestContext) (s : State) : State :=
  let moving : Bool := s.demand.speed != 0
  let d := if moving then startRamp 0 (rampTime c.copy c.step) s.demand else s.demand
  let s := s.withDemand { d with wheel := 0 }
  let s :=
    if moving && d.ramp.isSome then s.withCtx (some { c with phase := .reverse .rampDown }) else reversalWait c s
  referenceChange s

/-! ## FINISH and the end-of-test path -/

/-- A check starts (R126). -/
def startCheck (k : CheckKind) (s : State) : State :=
  s.withZero { s.zero with check := some ⟨k, .settle⟩, timer := .running Config.checkMs }

/-- An END OF TEST check is due for the record ON TEST (R129). -/
def checkDue (s : State) : Bool :=
  match onTestRecord s with
  | some r => r.leak.isSome && (decide (s.zero.interval ≤ s.zero.unchecked + 1) || s.zero.forced)
  | none => false

/-- The normal decision (R17, R152): the record is decided and the mode becomes READY. -/
def normalDecision (s : State) : State := judgeMonitors (setMode .ready (endTest s))

/-- The test context moves to a stage of FINISH, with a request held or not (R53). -/
def toFinishStage (c : TestContext) (stage : FinishStage) (hold : Bool) (s : State) : State :=
  s.withCtx (some { c with phase := .finish stage, requestHeld := hold })

/-- The entry into DECISION DUE: the decision is asked for in RUN, and held otherwise (R53). -/
def decisionDue (c : TestContext) (s : State) : State :=
  if s.mode.mode = .run then normalDecision (toFinishStage c .decisionDue false s)
  else toFinishStage c .decisionDue true s

/-- The request to the Zero Check, made in RUN (R53, R129). -/
def zeroAsk (c : TestContext) (s : State) : State :=
  if checkDue s then startCheck .endOfTest (toFinishStage c .zeroWait false s) else decisionDue c s

/-- The entry into ZERO WAIT: the Zero Check is asked in RUN, and the request is held otherwise (R53). -/
def enterZeroWait (c : TestContext) (s : State) : State :=
  if s.mode.mode = .run then zeroAsk c (toFinishStage c .zeroWait false s) else toFinishStage c .zeroWait true s

/-- The Leak Controller's report of DONE (R53, R108): it answers VENT WAIT. -/
def leakDoneReport (s : State) : State :=
  match s.ctx with
  | some c => if c.phase = .finish .ventWait then enterZeroWait c s else s
  | none => s

/-- The Zero Check's answer to ZERO WAIT (R53, R129). -/
def zeroAnswer (s : State) : State :=
  match s.ctx with
  | some c => if c.phase = .finish .zeroWait then decisionDue c s else s
  | none => s

/-- The entry into VENT WAIT; with the Leak Controller in DONE it is passed at once (R53). -/
def enterVentWait (c : TestContext) (s : State) : State :=
  if s.leak.phase = .done then enterZeroWait c s else toFinishStage c .ventWait false s

/-- The standstill check of FINISH (R52): the run-in is complete, and the path goes to VENT WAIT, or without a leak
section to ZERO WAIT. -/
def finishCheck (s : State) : State :=
  match s.ctx with
  | some c =>
    if c.phase = .finish .standstillWait ∧ atRest s = true then
      let c := { c with standstill := .stopped }
      if leakEnabled c.copy then enterVentWait c s else enterZeroWait c s
    else s
  | none => s

/-- The end of FINISH's ramp (R52): STANDSTILL WAIT, checked at once. -/
def finishWait (c : TestContext) (s : State) : State :=
  finishCheck
    (s.withCtx (some { c with phase := .finish .standstillWait, standstill := .running Config.standstillMs }))

/-- The entry into FINISH (R52). -/
def enterFinish (c : TestContext) (s : State) : State :=
  let s := s.withCtx (some { c with phase := .finish .rampDown })
  let s := s.withDemand { startRamp 0 Config.restRampMs s.demand with wheel := 0 }
  referenceChange (leakFinish (abandonBlock s))

/-- A request held by PAUSE is made at the RESUME (R53). -/
def makeHeldRequest (c : TestContext) (s : State) : State :=
  if c.requestHeld then
    match c.phase with
    | .finish .zeroWait => zeroAsk c s
    | .finish .decisionDue => decisionDue c s
    | .finish .rampDown | .finish .standstillWait | .finish .ventWait | .reverse _ | .ramp | .hold => s
  else s

/-! ## Steps -/

/-- What the step sequence does next at the same event. -/
inductive SeqAction where
  | startStep (k : Nat)
  | enterRamp
  | enterHold
  | complete
  deriving DecidableEq, Repr

/-- The wheel torque setpoint of the current step's flank (R48). -/
def wheelSetpoint (c : TestContext) : Int :=
  match stepFlank c.copy c.step with
  | .drive => -(wheelTorque c.copy c.step : Int)
  | .coast => (wheelTorque c.copy c.step : Int)

/-- A step start (R42): the context, the run-in section, the reports to the other blocks, and the first phase. -/
def startStep (k : Nat) (c : TestContext) (s : State) : State × Option SeqAction :=
  let first := !(c.started[k]?.getD false)
  let c :=
    { c with
      step := k, stepTimer := .unloaded, resumeRamp := false, started := c.started.setIfInBounds k true }
  let s := postRunIn (fun r => { r with lastStep := k }) (s.withCtx (some c))
  let s := monitorsStepStart (leakStepStart c first (abandonBlock s))
  let want := stepDirection c.copy k
  if want = s.demand.direction then (s, some .enterRamp)
  else if s.demand.speed = 0 ∧ atRest s = true then
    (s.withDemand { s.demand with direction := want }, some .enterRamp)
  else (enterReverse c s, none)

/-- The entry into RAMP in RUN (R45, R48, R50). -/
def enterRamp (c : TestContext) (s : State) : State × Option SeqAction :=
  let s := s.withCtx (some { c with phase := .ramp })
  let d := startRamp (inputSpeed c.copy c.step) (rampTime c.copy c.step) s.demand
  let s := referenceChange (s.withDemand { d with wheel := wheelSetpoint c })
  (s, if d.ramp.isNone then some .enterHold else none)

/-- The entry into HOLD (R45): an UNLOADED timer is loaded, a loaded one runs on; a HOLD TIME of 0 expires at once. -/
def enterHold (c : TestContext) (s : State) : State × Option SeqAction :=
  match c.stepTimer with
  | .unloaded =>
    let s := judgeMonitors (s.withCtx (some { c with phase := .hold, stepTimer := .running (holdTime c.copy c.step * 100) }))
    (s, if holdTime c.copy c.step = 0 then some .complete else none)
  | .frozen r | .running r =>
    (judgeMonitors (s.withCtx (some { c with phase := .hold, stepTimer := .running r })), none)

/-- A step completion (R46): a loop return, the next step or FINISH. -/
def completeStep (c : TestContext) (s : State) : State × Option SeqAction :=
  let s := postRunIn (fun r => { r with stepsCompleted := min 255 (r.stepsCompleted + 1) }) s
  let k := c.step
  let looped := loopTarget c.copy k != loopNone
  if looped && decide (c.loop < loopCount c.copy k) then
    (s.withCtx (some { c with loop := c.loop + 1, stepTimer := .unloaded }), some (.startStep (loopTarget c.copy k)))
  else
    let c := { c with loop := if looped then 0 else c.loop, stepTimer := .unloaded }
    if k + 1 < stepCount c.copy then (s.withCtx (some c), some (.startStep (k + 1))) else (enterFinish c s, none)

/-- One action of the sequence, and the action that follows at the same event. -/
def seqAct (a : SeqAction) (s : State) : State × Option SeqAction :=
  match s.ctx with
  | none => (s, none)
  | some c =>
    match a with
    | .startStep k => startStep k c s
    | .enterRamp => enterRamp c s
    | .enterHold => enterHold c s
    | .complete => completeStep c s

/-- The actions of one event, at most `fuel` of them. -/
def runSequence : Nat → SeqAction → State → State
  | 0, _, s => s
  | fuel + 1, a, s =>
    match seqAct a s with
    | (s', some a') => runSequence fuel a' s'
    | (s', none) => s'

/-- More actions than one event can need: 24 steps, each started at most 16 times (R27, R46), four actions a start. -/
def sequenceFuel : Nat := 1600

/-- The sequence goes on from an action, through every step that ends at this same event (R41, R45). -/
def sequence (a : SeqAction) (s : State) : State := runSequence sequenceFuel a s

/-! ## RESUME -/

/-- RAMP or HOLD at a RESUME (R50): the resume ramp, with the Leak Controller's quiet opening (R112, R117). -/
def resumeStep (c : TestContext) (s : State) : State :=
  let c := { c with resumeRamp := true }
  let s := s.withCtx (some { c with phase := .ramp })
  let s := if leakQuiet c.copy c.step then leakQuietOpening c s else s
  sequence .enterRamp s

/-- The test context at a RESUME, by phase (R50). -/
def resumeRunIn (s : State) : State :=
  match s.ctx with
  | some c =>
    match c.phase with
    | .ramp | .hold => resumeStep c s
    | .reverse _ => s
    | .finish _ => makeHeldRequest c s
  | none => s

/-- A return of the mode from PAUSE to RUN (R12, R15, R50), and the supply judgement of a change into RUN that follows it
(R12, R79). -/
def resume (s : State) : State := supplyJudge (resumeRunIn (referenceChange (setMode .run s)))

/-! ## Events of the test context -/

/-- The demand ramp's end is reported (R41): to the step sequence in RUN (R45), to a reversal in RUN and PAUSE (R43, R51),
to FINISH (R52). The ramps of SETTLE and of PAUSE in RAMP and HOLD have nothing to report to. -/
def reportRampEnd (s : State) : State :=
  match s.ctx with
  | some c =>
    match c.phase with
    | .ramp => if s.mode.mode = .run then sequence .enterHold s else s
    | .reverse .rampDown => reversalWait c s
    | .finish .rampDown => finishWait c s
    | .reverse .standstillWait | .reverse .dwell | .hold | .finish .standstillWait | .finish .ventWait
    | .finish .zeroWait | .finish .decisionDue => s
  | none => s

/-- The direction change at the dwell timer's expiry (R44); in PAUSE no ramp is started (R51). DEDUCED (log entry 27): the
expiry in PAUSE is an entry into RAMP for WHEEL OVERLOAD (R73). -/
def dwellEnd (c : TestContext) (s : State) : State :=
  let s := s.withDemand { s.demand with direction := stepDirection c.copy c.step }
  let s := s.withCtx (some { c with phase := .ramp, dwell := .stopped, standstill := .stopped })
  if s.mode.mode = .run then sequence .enterRamp s else referenceChange s

/-- The post of the maximum absolute input torque (R55, R66). -/
def postTorque (d : DriveId) (s : State) : State :=
  if d = .input ∧ s.ctx.isSome = true then
    postRunIn (fun r => { r with maxTorque := max r.maxTorque (torqueOf s .input) }) s
  else s

/-- What the Run-In Controller does at an acceptance (R66). DESIGN CHOICE (log entry 31): the torque maximum is posted
before the checks, of which FINISH's can decide the record. -/
def runInAccept (d : DriveId) (s : State) : State := finishCheck (reversalCheck (postTorque d s))

/-- What the Mode Controller does at an acceptance (R66): the post-reset standstill mark (R5) and the completion check. -/
def modeAccept (d : DriveId) (s : State) : State :=
  let s := if driveAtRest s d then s.withMode { s.mode with seen := s.mode.seen.set d true } else s
  completionCheck s

/-- DRIVE FAULT acts at an acceptance (R75). -/
def driveFaultActs (d : DriveId) (s : State) : Bool :=
  driveEnable s && (held s d).state == .fault && !latchSet s .driveFault

/-- DRIVE FAULT at an acceptance (R75). -/
def driveFaultAccept (d : DriveId) (s : State) : State :=
  if driveFaultActs d s then latch .driveFault (driveNumber d) s else s

/-- The supply recovery of R81 is reported. -/
def supplyRecovers (s : State) : Bool :=
  !supplyBad s && s.mode.mode == .pause && s.mode.pauseKind == .supply

/-- SUPPLY at an acceptance: the judgement of R79, or the recovery of R81. -/
def supplyAccept (s : State) : State := if supplyRecovers s then resume s else supplyJudge s

/-- What the Supervision Monitors do at an acceptance (R67). The spec gives no order between DRIVE FAULT and SUPPLY, and
it matters where both act. -/
def monitorsAccept (d : DriveId) (s : State) : State :=
  let s := judgeMonitors s
  eitherOrder (driveFaultActs d s && (supplyActs s || supplyRecovers s)) (driveFaultAccept d) supplyAccept s

end Sys2Proof.Machine
end

