-- ==== Sys2Proof/Machine/DriveLinkEvents.lean ====
section
/-! DEFINITION. The events of the drive link (spec/04) and of the demand ramp that its cycle moves (R41). -/

namespace Sys2Proof.Machine

/-! ## CYCLE_START and DEMAND_RAMP_END -/

/-- The setpoint of a ramp at an elapsed time below its length (R41): the quotient is truncated toward the start value. -/
def rampValue (r : Ramp) (elapsed : Nat) : Nat :=
  if r.start ≤ r.target then r.start + (r.target - r.start) * elapsed / r.length
  else r.start - (r.start - r.target) * elapsed / r.length

/-- A link cycle's ramp update (R41). A ramp that has reached its target stays until DEMAND_RAMP_END reports its end (log
entry 13). -/
def rampUpdate (d : Demand) : Demand :=
  match d.ramp with
  | some r =>
    if r.start = r.target ∨ r.length ≤ r.elapsed + 2 then
      { d with speed := r.target, ramp := some { r with elapsed := r.length } }
    else { d with speed := rampValue r (r.elapsed + 2), ramp := some { r with elapsed := r.elapsed + 2 } }
  | none => d

/-- A running step timer after a link cycle (R45). -/
def StepTimer.cycle : StepTimer → StepTimer
  | .running r => .running (r - 2)
  | .frozen r => .frozen r
  | .unloaded => .unloaded

/-- The three setpoint messages of a cycle, in id order (R57, R58). -/
def setpointMessages (s : State) : List (List Byte) :=
  allDrives.map fun d => setpointMessage d s.link.cycle (driveEnable s) s.demand

/-- A cycle start (R57): the ramp update, the step timer, then the messages. -/
def cycleStart (s : State) : State :=
  let s := s.withDemand (rampUpdate s.demand)
  let s := s.withCtx (s.ctx.map fun c => { c with stepTimer := c.stepTimer.cycle })
  s.withLink { s.link with sent := setpointMessages s }

def execCycleStart (s : State) : Host.Outcome State Fault Refusal := .next (cycleStart s)

/-- The end of the demand ramp in progress (R41). -/
def demandRampEnd (s : State) : State :=
  match s.demand.ramp with
  | some r => reportRampEnd (s.withDemand { s.demand with speed := r.target, ramp := none })
  | none => s

def execDemandRampEnd (s : State) : Host.Outcome State Fault Refusal := .next (demandRampEnd s)

/-! ## CYCLE_END -/

/-- One drive's miss counting (R63). -/
def countMiss (l : DriveLine) : DriveLine :=
  if l.good then { l with good := false } else { l with misses := min 255 (l.misses + 1) }

/-- The lowest drive whose miss counter stands at 3 or more (R64). -/
def lostDrive (l : PerDrive DriveLine) : Option DriveId := allDrives.find? fun d => decide (3 ≤ (l.get d).misses)

/-- The link loss report (R64). -/
def reportLoss (s : State) : State :=
  match lostDrive s.link.drives with
  | some d => latch .linkLoss (driveNumber d) s
  | none => s

/-- A cycle end (R57, R63, R64). -/
def cycleEnd (s : State) : State :=
  let l := s.link.drives
  reportLoss
    (s.withLink
      { s.link with
        drives := ⟨countMiss l.input, countMiss l.left, countMiss l.right⟩, cycle := s.link.cycle + 1 })

def execCycleEnd (s : State) : Host.Outcome State Fault Refusal := .next (cycleEnd s)

/-! ## STATUS_MESSAGE -/

/-- A good message replaces what is held of its drive (R61 steps 1 to 3). -/
def acceptStatus (d : DriveId) (h : DriveStatus) (s : State) : State :=
  s.withLink { s.link with drives := s.link.drives.set d { held := h, received := true, good := true, misses := 0 } }

/-- The acceptance is passed on (R61 step 4, R66, R67). -/
def passAcceptance (d : DriveId) (monitorsFirst : Bool) (s : State) : State :=
  if monitorsFirst then modeAccept d (runInAccept d (monitorsAccept d s))
  else monitorsAccept d (modeAccept d (runInAccept d s))

/-- The arrival of a status message (R60, R61). -/
def statusMessage (bytes : List Byte) (monitorsFirst : Bool) (s : State) : State :=
  match readStatus s.link.cycle bytes with
  | some (d, h) => passAcceptance d monitorsFirst (acceptStatus d h s)
  | none => s

def execStatusMessage (bytes : List Byte) (monitorsFirst : Bool) (s : State) : Host.Outcome State Fault Refusal :=
  .next (statusMessage bytes monitorsFirst s)

end Sys2Proof.Machine
end

