-- ==== Sys2Proof/Machine/ZeroOps.lean ====
section
/-! DEFINITION. The judgement of a zero check (R126, R127, R130 to R133), the oil readings (R76, R77), the end of VENT (R115),
and the delivery of a conversion (R136). -/

namespace Sys2Proof.Machine

/-! ## The judgement of a check -/

/-- The current record of a check (R129): the record ON TEST of an END OF TEST check. -/
def currentRecord (k : CheckKind) (s : State) : Option (Fin 16) := if k = .endOfTest then onTestSlot s else none

/-- A record's zero status is set, where it has one. -/
def setZeroStatus (z : ZeroStatus) (r : Record) : Record := { r with zero := r.zero.map fun _ => z }

/-- An UNCHECKED record takes another zero status; CHECKED and SUSPECT are final (R128). -/
def judgeStatus (z : ZeroStatus) (r : Record) : Record :=
  if r.zero = some .unchecked then { r with zero := some z } else r

/-- The current record's zero status is set (R130 step 1, R131 step 2). -/
def setCurrent (current : Option (Fin 16)) (z : ZeroStatus) (s : State) : State :=
  match current with
  | some i => modifyRecord i (setZeroStatus z) s
  | none => s

/-- An END OF TEST check answers the Run-In Controller (R129). -/
def answerOf (k : CheckKind) (s : State) : State := if k = .endOfTest then zeroAnswer s else s

/-- The effects of a good check (R130), which a CAPTURE has too (R127). -/
def goodCheck (k : CheckKind) (average : Nat) (s : State) : State :=
  let s := modifyAll (judgeStatus .checked) (setCurrent (currentRecord k s) .checked s)
  let s := s.withZero { s.zero with unchecked := 0, forced := false }
  answerOf k (raise (.zero k .good average) s)

/-- The integrity log with a new entry: at most 8, the oldest removed (R133). -/
def addLog (e : LogEntry) (log : List LogEntry) : List LogEntry :=
  if log.length < 8 then log ++ [e] else log.drop (log.length - 7) ++ [e]

/-- The policy after a failed check (R132). -/
def applyPolicy (k : CheckKind) (s : State) : State :=
  match s.zero.policy with
  | .halt => enterHalt s
  | .flag => answerOf k (s.withZero { s.zero with forced := true })

/-- The effects of a failed check (R131). The current record is marked before the others are counted, so that it is not
among them. -/
def failedCheck (k : CheckKind) (average : Nat) (s : State) : State :=
  let current := currentRecord k s
  let s := setCurrent current .suspect s
  let marked := countRecords s fun r => r.zero == some .unchecked
  let s := modifyAll (judgeStatus .suspect) s
  let s := if current.isSome then appendFault .zeroFail average s else s
  let departed := s.zero.unchecked - marked
  let entry : LogEntry :=
    { kind := k, average := average, reference := s.zero.reference, tolerance := s.zero.tolerance, marked := marked
      departed := departed, slot := current, policy := s.zero.policy }
  let s := s.withZero { s.zero with log := addLog entry s.zero.log, unchecked := 0 }
  let s := raise (.zero k .failed average) (raise (.suspect marked departed) s)
  applyPolicy k s

/-- The distance of two readings. -/
def distance (a b : Nat) : Nat := (a - b) + (b - a)

/-- The judgement of a check whose burst is complete (R126): the check ends with its VENT demand, and its average is taken
as the reference or compared with it. -/
def judgeCheck (k : CheckKind) (s : State) : State :=
  let average := (s.zero.sum + 4) / 8
  let s := s.withZero { s.zero with check := none, timer := .stopped }
  if k = .capture then goodCheck k average (s.withZero { s.zero with reference := average, refValid := true })
  else if distance average s.zero.reference ≤ s.zero.tolerance then goodCheck k average s
  else failedCheck k average s

/-- A ZERO conversion that is still expected (R126 step 2). -/
def zeroReading (v : Nat) (s : State) : State :=
  match s.zero.check with
  | some ⟨k, .burst⟩ =>
    let s := s.withZero { s.zero with sum := s.zero.sum + v, count := s.zero.count + 1 }
    if s.zero.count = Config.zeroBurst then judgeCheck k s else s
  | _ => s

/-! ## Oil readings -/

/-- The run-in section at an oil reading (R55): the maximum of the readings in range, and prewarn seen where R77 makes its
step 2. -/
def oilSection (c : TestContext) (judged : Bool) (v : Nat) (r : RunInSection) : RunInSection :=
  if temperatureInRange v then
    { r with
      maxOil := max r.maxOil v
      prewarnSeen := r.prewarnSeen || (judged && decide (oilPrewarn c.copy ≤ v)) }
  else r

/-- Steps 2 and 3 of the oil judgement with a test context (R77). -/
def oilThresholds (c : TestContext) (v : Nat) (s : State) : State :=
  let s := if oilPrewarn c.copy ≤ v then latch .oilPrewarn v s else s
  if oilShutdown c.copy ≤ v then
    if s.sup.oilCount = 0 then s.withSup { s.sup with oilCount := 1 }
    else latch .oilShutdown v (s.withSup { s.sup with oilCount := 0 })
  else s.withSup { s.sup with oilCount := 0 }

/-- The judgement of an oil reading while DRIVE ENABLE is asserted (R77). -/
def oilJudge (v : Nat) (s : State) : State :=
  if temperatureInRange v then
    match s.ctx with
    | some c => oilThresholds c v s
    | none => s.withSup { s.sup with oilCount := 0 }
  else latch .sensor v (s.withSup { s.sup with oilCount := 0 })

/-- An oil reading (R55, R76, R77): it becomes the last oil reading, restarts the stale timer while the timer may run, goes
to the run-in section, and is judged while DRIVE ENABLE is asserted. One that OIL has withdrawn is not judged, though DRIVE ENABLE
may be asserted again (R76, R141). DESIGN CHOICE (log entry 36): it restarts the stale timer then. -/
def oilReading (expected : Bool) (v : Nat) (s : State) : State :=
  let on := driveEnable s
  let judged := on && expected
  let stale := if on && !latchSet s .tempStale then .running Config.staleMs else s.sup.stale
  let s := s.withSup { s.sup with lastOil := some v, stale := stale }
  let s :=
    match s.ctx with
    | some c => postRunIn (oilSection c judged v) s
    | none => s
  if judged then oilJudge v s else s

/-! ## Delivery -/

/-- A P reading in VENT (R115): below the threshold the phase becomes DONE, which is reported. -/
def ventReading (v : Nat) (s : State) : State :=
  if s.leak.phase = .vent ∧ v < ventThreshold s.zero then
    let s := leakLeave s
    leakDoneReport (s.withLeak { s.leak with phase := .done })
  else s

/-- The value goes to the requester that was granted (R136). A LEAK or ZERO value that its requester has withdrawn is
disregarded (R141); a withdrawn OIL value is a reading that is not judged (R76). -/
def deliver (c : Conversion) (v : Nat) (s : State) : State :=
  match c.requester with
  | .leak => if c.expected then leakReading c.channel v s else s
  | .zero => if c.expected then zeroReading v s else s
  | .oil => oilReading c.expected v s
  | .spot => raise (.convert c.channel v) s

/-- A P reading goes to the Leak Controller's VENT phase and to the Mode Controller (R136). -/
def passPressure (c : Conversion) (v : Nat) (s : State) : State :=
  if c.channel = .p then completionCheck (ventReading v s) else s

/-- A burst owner's remaining count at a completion (R140): it goes down by one, and at 0 the owner is cleared. -/
def countDown (o : Option BurstOwner) : Option BurstOwner :=
  match o with
  | some ⟨r, _ :: c :: cs⟩ => some ⟨r, c :: cs⟩
  | _ => none

/-- A completion (R136, R139, R140): the owner's count goes down, a P value becomes the last pressure reading, the value is
delivered and passed on, and the next grant is made. -/
def completeConversion (c : Conversion) (v : Nat) (s : State) : State :=
  let a := { s.conv with owner := countDown s.conv.owner, lastP := if c.channel = .p then some v else s.conv.lastP }
  let s := passPressure c v (deliver c v (s.withConv a))
  s.withConv (grant { s.conv with inProgress := none })

end Sys2Proof.Machine
end

