-- ==== Sys2Proof/Machine/RequestOps.lean ====
section
/-! DEFINITION. What every request of a port shares: rights (R162), the dispatch (R161), the reply layouts of R170, and the
records' order (R145). -/

namespace Sys2Proof.Machine

/-! ## Rights -/

/-- A command is inside a port's rights by its code (R162). -/
def allowed (rights : LineRights) : Port → Command → Bool
  | .cell, c =>
    match c with
    | .induct | .start | .verdict => false
    | .abort | .recordRead | .archive | .mode | .status | .event | .faultRead | .clearFaults | .faultReadAndClear
    | .cellClear | .recipeWrite | .recipeRead | .recipeValidate | .patchWrite | .patchRead | .zeroCapture | .zeroCheck
    | .integrityLogRead | .spotConvert | .settingsWrite | .settingsRead | .routeWrite => true
  | .line, c =>
    match c with
    | .induct | .start | .verdict | .recordRead | .event | .faultRead | .status | .mode => true
    | .abort => rights.abort
    | .clearFaults | .faultReadAndClear => rights.clear
    | .archive | .cellClear | .recipeWrite | .recipeRead | .recipeValidate | .patchWrite | .patchRead | .zeroCapture
    | .zeroCheck | .integrityLogRead | .spotConvert | .settingsWrite | .settingsRead | .routeWrite => false

/-- PAUSE and RESUME are inside a port's rights by their content (R161 step 4, R162). -/
def mayHold (p : Port) (s : State) : Bool :=
  match p with
  | .line => s.ports.rights.hold
  | .cell => true

/-- A RECORD READ of a section is inside a port's rights by its content (R161 step 4, R162). -/
def mayRead (p : Port) (sect : Nat) : Bool :=
  match p with
  | .line => sect == 0 || sect == 1
  | .cell => true

/-- A refusal with ACCESS at step 2 or 4 of the dispatch, with its ACCESS event (R161). -/
def refuseAccess (p : Port) (c : Command) (s : State) : State := reply p ⟨.access, []⟩ (raise (.access p c) s)

/-- The frame end of a request (R161): a frame that a device reset has discarded brings no request (R158); outside the
port's rights it is refused; else the owning block's result becomes the held reply. -/
def portRequest (p : Port) (c : Command) (contentRight : Bool) (act : State → Reply × State) (s : State) : State :=
  if (s.ports.get p).frame = .discarded then closeFrame p s
  else if allowed s.ports.rights p c && contentRight then reply p (act s).1 (act s).2
  else refuseAccess p c s

/-- A reply without data. -/
def plain (c : ResultCode) : Reply := ⟨c, []⟩

/-! ## Layouts of replies (R170) -/

/-- The fifteen latches in kind order, each a state byte and a value (R83). -/
def latchBytes (s : State) : List Byte :=
  allLatches.flatMap fun k => flagByte (latchSet s k) :: be16 ((latchValue s k).getD 0)

/-- The guard inputs, one byte each, 1 for high. -/
def guardBytes (g : GuardLevels) : List Byte :=
  [flagByte g.estop, flagByte g.door, flagByte g.clamp1, flagByte g.clamp2, flagByte g.clamp3, flagByte g.clamp4]

/-- The STATUS reply (R163). -/
def statusBytes (s : State) : List Byte :=
  [byte s.mode.mode.code, byte (targetCode s.mode.target), byte s.mode.pauseKind.code] ++ guardBytes s.mode.guards ++
    [flagByte (driveEnable s), flagByte (unclampPermit s), flagByte (ventOutput s), flagByte (fillOutput s),
     flagByte (dlock s), byte (presentCount s), byte s.zero.unchecked, flagByte s.zero.forced,
     flagByte s.zero.refValid] ++ be16 s.zero.reference

/-- The section, index and field bytes of an item. -/
def itemBytes (t : ItemRef) : List Byte := [byte t.sect, byte t.index, byte t.field]

/-- The detail of an event. DESIGN CHOICE (log entry 30): the section, index and field bytes of a RECIPE event with outcome
OK are sent as 0. -/
def detailBytes : Event → List Byte
  | .halt left => [byte left.code]
  | .guard g => guardBytes g
  | .fault k v => byte k.code :: be16 v
  | .suspect marked departed => [byte marked, byte departed]
  | .verdict i => [byte i.val]
  | .queueFull i => [byte i.val]
  | .mode m o => [byte m.code, byte o.code]
  | .access p c => [byte (portCode p), c.code]
  | .zero k r a => [byte k.code, byte r.code] ++ be16 a
  | .convert ch v => byte ch.code :: be16 v
  | .recipe n failure =>
    [byte n, flagByte failure.isSome] ++
      (match failure with
        | some t => itemBytes t
        | none => [0, 0, 0])

/-- The EVENT reply (R168): the source's priority number, the detail's length and the detail. -/
def eventBytes (e : Event) : List Byte :=
  [byte (e.source.val + 1), byte (detailBytes e).length] ++ detailBytes e

/-- A fault list entry in the VERDICT section. -/
def entryBytes (e : FaultEntry) : List Byte :=
  [byte e.kind.code, byte e.step] ++ be16 e.value ++
    (match e.kind with
      | .noiseExceed j f b => [byte j, byte f.code, byte b]
      | .latch _ | .leakGross | .leakRate | .zeroFail | .aborted | .cellClear => [0, 0, 0])

/-- The IDENTITY section, 28 bytes. -/
def identityBytes (r : Record) : List Byte :=
  [byte r.serial.length] ++ padded 20 r.serial ++
    [byte r.retest, byte r.recipe, byte r.state.code, flagByte r.released, flagByte r.archived] ++ be16 r.seq.toNat

/-- The VERDICT section, 46 bytes. -/
def verdictBytes (r : Record) : List Byte :=
  [byte (verdictCode r.verdict), byte (zeroStatusCode r.zero), byte r.overflow.code, byte r.faults.length] ++
    padded 42 (r.faults.flatMap entryBytes)

/-- The RUN-IN section, 9 bytes. -/
def runInBytes (x : RunInSection) : List Byte :=
  [byte x.stepsCompleted, byte x.lastStep] ++ be16 x.maxOil ++ be16 x.maxTorque ++ [flagByte x.prewarnSeen] ++
    be16 x.runTime

/-- The NOISE section, 290 bytes. -/
def noiseBytes (x : NoiseSection) : List Byte :=
  x.peaks.toList.flatMap be16 ++ x.coverage.toList.map flagByte ++
    [byte x.discards, byte (noiseOutcomeCode x.outcome)]

/-- A pressure and a temperature with a presence byte. DESIGN CHOICE (log entry 35): absent values are sent as 0. -/
def pairBytes (x : Option PressureTemp) : List Byte :=
  flagByte x.isSome :: (be16 ((x.map PressureTemp.pressure).getD 0) ++ be16 ((x.map PressureTemp.temperature).getD 0))

/-- The LEAK section, 18 bytes. DESIGN CHOICE (log entry 35): an absent rate is sent as 0. -/
def leakBytes (x : LeakSection) : List Byte :=
  pairBytes x.startValues ++ pairBytes x.endValues ++ (flagByte x.rate.isSome :: be16 (x.rate.getD 0)) ++
    [flagByte x.rise, byte (leakOutcomeCode x.outcome), byte x.attempts, byte (endReasonCode x.endOf1),
     byte (endReasonCode x.endOf2)]

/-- A section of a record by its code, none when the record has no such section (R156). -/
def sectionBytes (r : Record) : Nat → Option (List Byte)
  | 0 => some (identityBytes r)
  | 1 => some (verdictBytes r)
  | 2 => r.runIn.map runInBytes
  | 3 => r.noise.map noiseBytes
  | 4 => r.leak.map leakBytes
  | _ => none

/-- An integrity log entry, 11 bytes. -/
def logBytes (e : LogEntry) : List Byte :=
  [byte e.kind.logCode] ++ be16 e.average ++ be16 e.reference ++ be16 e.tolerance ++
    [byte e.marked, byte e.departed, byte ((e.slot.map Fin.val).getD 0xFF), byte e.policy.code]

/-- The line rights as one byte (section 11.6). DESIGN CHOICE (log entry 14): its bits 3 to 7, which no rule gives, are sent as 0, also
after a write that set them. -/
def rightsByte (x : LineRights) : Byte :=
  byte ((if x.hold then 1 else 0) + (if x.abort then 2 else 0) + (if x.clear then 4 else 0))

/-- The settings record (R164). -/
def settingsBytes (s : State) : List Byte :=
  be16 s.zero.ventOffset ++ be16 s.zero.tolerance ++
    [byte s.zero.interval, byte s.zero.policy.code, byte s.conv.classes.leak.code, byte s.conv.classes.zero.code,
     byte s.conv.classes.oil.code, byte s.conv.classes.spot.code, flagByte s.conv.spotMasked, rightsByte s.ports.rights]

/-- The routes in priority order (R164). -/
def routeBytes (s : State) : List Byte := allSources.map fun i => byte (s.events.routes[i]).code

/-! ## The order of records -/

/-- Of two sequence numbers, the first is older (R145). -/
def olderSeq (a b : Word16) : Bool := decide (1 ≤ (b - a).toNat ∧ (b - a).toNat ≤ 32767)

/-- The record in slot `i` is older than the one in slot `j`. -/
def olderSlot (s : State) (i j : Fin 16) : Bool :=
  match recordAt s i, recordAt s j with
  | some a, some b => olderSeq a.seq b.seq
  | _, _ => false

/-- The slot of the oldest present record of which something holds (R145). -/
def oldestSlot (s : State) (p : Record → Bool) : Option (Fin 16) :=
  (allSlots.filter (slotHas s p)).foldl
    (fun best i =>
      match best with
      | none => some i
      | some j => if olderSlot s i j then some i else some j)
    none

/-- The lowest-numbered empty slot (R145). -/
def emptySlot (s : State) : Option (Fin 16) := allSlots.find? fun i => (recordAt s i).isNone

/-- A slot number from a byte. -/
def slotOf (b : Byte) : Option (Fin 16) := if h : b.toNat < 16 then some ⟨b.toNat, h⟩ else none

end Sys2Proof.Machine
end

