-- ==== Sys2Proof/Machine/ModeRequests.lean ====
section
/-! DEFINITION. The four MODE requests (R8 to R12). -/

namespace Sys2Proof.Machine

/-- Every drive has been heard since device reset (R8, R56). -/
def allReceived (s : State) : Bool :=
  s.link.drives.input.received && s.link.drives.left.received && s.link.drives.right.received

/-- What a READY request asks for (R8). LINK LOSS is a STOP-class latch. -/
def readyGood (s : State) : Bool := guardsGood s.mode.guards && !stopLatchSet s && allReceived s

/-- A READY request (R8); DRIVE ENABLE is asserted at the same event (R4). -/
def readyDecide (s : State) : Reply × State :=
  match s.mode.mode with
  | .idle => if readyGood s then (plain .ok, driveEnableRose (setMode .ready s)) else (plain .notReady, s)
  | .halt => (plain .halted, s)
  | .ready | .run | .pause | .settle | .stop => (plain .mode, s)

def readyRequest (p : Port) (s : State) : State := portRequest p .mode true readyDecide s

def execReadyRequest (p : Port) (s : State) : Host.Outcome State Fault Refusal := .next (readyRequest p s)

/-- The running record is ended as by ABORT, before the entry to SETTLE (R10, R149): an ABORTED entry is appended and the record is
decided. What R119 does to the outcome comes before; its move to VENT is made once, by the entry to SETTLE. -/
def abortTest (cause : Nat) (s : State) : State := endTest (appendFault .aborted cause (leakUndecided s))

/-- A degraded IDLE request (R9, R10). DESIGN CHOICE (log entry 33): where SETTLE is complete at its entry, DEGRADED is raised before
REACHED. -/
def degrade (s : State) : State := enterSettle .idle (raise (.mode .idle .degraded) s)

/-- An IDLE request (R9 to R11). -/
def idleDecide (s : State) : Reply × State :=
  match s.mode.mode with
  | .ready =>
    if atRest s && vented s then (plain .ok, judgeMonitors (setMode .idle s)) else (plain .ok, degrade s)
  | .run | .pause => (plain .ok, degrade (abortTest 3 s))
  | .stop => (plain .ok, completionCheck (s.withMode { s.mode with target := some .idle }))
  | .idle | .settle | .halt => (plain .mode, s)

def idleRequest (p : Port) (s : State) : State := portRequest p .mode true idleDecide s

def execIdleRequest (p : Port) (s : State) : Host.Outcome State Fault Refusal := .next (idleRequest p s)

/-- A PAUSE request (R12). -/
def pauseDecide (s : State) : Reply × State :=
  if s.mode.mode = .run then (plain .ok, enterPause .operator s) else (plain .mode, s)

def pauseRequest (p : Port) (s : State) : State := portRequest p .mode (mayHold p s) pauseDecide s

def execPauseRequest (p : Port) (s : State) : Host.Outcome State Fault Refusal := .next (pauseRequest p s)

/-- A RESUME request (R12). -/
def resumeDecide (s : State) : Reply × State :=
  if s.mode.mode = .pause ∧ s.mode.pauseKind = .operator then (plain .ok, resume s)
  else if s.mode.mode = .halt then (plain .halted, s)
  else (plain .mode, s)

def resumeRequest (p : Port) (s : State) : State := portRequest p .mode (mayHold p s) resumeDecide s

def execResumeRequest (p : Port) (s : State) : Host.Outcome State Fault Refusal := .next (resumeRequest p s)

end Sys2Proof.Machine
end

