-- ==== Sys2Proof/Machine/ZeroEvents.lean ====
section
/-! DEFINITION. The zero check's timer and commands (spec/08), and the converter's completion and spot conversions (spec/09). -/

namespace Sys2Proof.Machine

/-- The expiry of a running check timer (R126 step 2): the burst is asked for. -/
def checkExpiry (s : State) : State :=
  match s.zero.check with
  | some ⟨k, .settle⟩ =>
    if s.zero.timer.isRunning then
      request .zero (.burst (List.replicate Config.zeroBurst .p))
        (s.withZero { s.zero with check := some ⟨k, .burst⟩, timer := .stopped, count := 0, sum := 0 })
    else s
  | some ⟨_, .burst⟩ | none => s

def execCheckTimerExpiry (s : State) : Host.Outcome State Fault Refusal := .next (checkExpiry s)

/-- The completion of the conversion in progress (R136); with none in progress nothing completes. -/
def conversionCompletion (v : Word16) (s : State) : State :=
  match s.conv.inProgress with
  | some c => completeConversion c v.toNat s
  | none => s

def execConversionCompletion (v : Word16) (s : State) : Host.Outcome State Fault Refusal := .next (conversionCompletion v s)

/-- ZERO CAPTURE (R127). -/
def zeroCaptureDecide (s : State) : Reply × State :=
  if s.mode.mode ≠ .idle then (plain .mode, s)
  else if s.zero.check.isSome then (plain .busy, s)
  else (plain .ok, startCheck .capture s)

def zeroCapture (p : Port) (s : State) : State := portRequest p .zeroCapture true zeroCaptureDecide s

def execZeroCapture (p : Port) (s : State) : Host.Outcome State Fault Refusal := .next (zeroCapture p s)

/-- The mode is IDLE or READY with no record ON TEST (R134, R164). -/
def betweenTests (s : State) : Bool := (s.mode.mode == .idle || s.mode.mode == .ready) && (onTestSlot s).isNone

/-- ZERO CHECK (R134). -/
def zeroCheckDecide (s : State) : Reply × State :=
  if !betweenTests s then (plain .busy, s)
  else if s.zero.check.isSome then (plain .busy, s)
  else if !s.zero.refValid then (plain .zero, s)
  else (plain .ok, startCheck .command s)

def zeroCheck (p : Port) (s : State) : State := portRequest p .zeroCheck true zeroCheckDecide s

def execZeroCheck (p : Port) (s : State) : Host.Outcome State Fault Refusal := .next (zeroCheck p s)

/-- INTEGRITY LOG READ (R133, R170): the entry count, then up to five entries from the first index. -/
def integrityLogReadDecide (first : Byte) (s : State) : Reply × State :=
  if 7 < first.toNat then (plain .range, s)
  else (⟨.ok, byte s.zero.log.length :: ((s.zero.log.drop first.toNat).take 5).flatMap logBytes⟩, s)

def integrityLogRead (p : Port) (first : Byte) (s : State) : State :=
  portRequest p .integrityLogRead true (integrityLogReadDecide first) s

def execIntegrityLogRead (p : Port) (first : Byte) (s : State) : Host.Outcome State Fault Refusal :=
  .next (integrityLogRead p first s)

/-- A spot conversion is outstanding: pending or in progress (R142). -/
def spotOutstanding (a : Arbiter) : Bool :=
  a.waiting.spot.isSome ||
    (match a.inProgress with
      | some c => c.requester == .spot
      | none => false)

/-- SPOT CONVERT (R142). -/
def spotConvertDecide (channel : Byte) (s : State) : Reply × State :=
  match channelOfCode channel.toNat with
  | none => (plain .range, s)
  | some ch =>
    if s.conv.spotMasked then (plain .access, s)
    else if spotOutstanding s.conv then (plain .busy, s)
    else (plain .ok, request .spot (.single ch) s)

def spotConvert (p : Port) (channel : Byte) (s : State) : State :=
  portRequest p .spotConvert true (spotConvertDecide channel) s

def execSpotConvert (p : Port) (channel : Byte) (s : State) : Host.Outcome State Fault Refusal :=
  .next (spotConvert p channel s)

end Sys2Proof.Machine
end

