-- ==== Sys2Proof/Machine/PortCommands.lean ====
section
/-! DEFINITION. The commands of the ports and the Event Unit: STATUS, settings, routes and EVENT (spec/11). -/

namespace Sys2Proof.Machine

/-- STATUS (R163). -/
def statusDecide (s : State) : Reply × State := (⟨.ok, statusBytes s⟩, s)

def status (p : Port) (s : State) : State := portRequest p .status true statusDecide s

def execStatus (p : Port) (s : State) : Host.Outcome State Fault Refusal := .next (status p s)

/-! ## EVENT -/

/-- Replace one port's marks. -/
def EventUnit.setMarks (u : EventUnit) (p : Port) (m : Vector (Option Event) 11) : EventUnit :=
  match p with
  | .line => { u with line := m }
  | .cell => { u with cell := m }

/-- Clear the mark of a source on a port (R165, R168). -/
def EventUnit.clearMark (u : EventUnit) (p : Port) (i : Fin 11) : EventUnit := u.setMarks p ((u.marks p).set i none)

/-- The source of the highest priority with a mark set on a port (R168). -/
def firstMark (u : EventUnit) (p : Port) : Option (Fin 11) := allSources.find? fun i => ((u.marks p)[i]).isSome

/-- EVENT (R168). -/
def eventDecide (p : Port) (s : State) : Reply × State :=
  match firstMark s.events p with
  | none => (plain .none, s)
  | some i =>
    match (s.events.marks p)[i] with
    | none => (plain .none, s)
    | some e => (⟨.ok, eventBytes e⟩, s.withEvents (s.events.clearMark p i))

def event (p : Port) (s : State) : State := portRequest p .event true (eventDecide p) s

def execEvent (p : Port) (s : State) : Host.Outcome State Fault Refusal := .next (event p s)

/-! ## Settings -/

/-- Every field of a settings record lies in its range (R125, R138, R164). A line right is one bit, so any byte of rights is in
range; its bits 3 to 7 are not read (log entry 14). -/
def settingsGood (x : SettingsRecord) : Bool :=
  decide (10 ≤ x.ventOffset.toNat ∧ x.ventOffset.toNat ≤ 500) &&
    decide (1 ≤ x.tolerance.toNat ∧ x.tolerance.toNat ≤ 500) &&
    decide (1 ≤ x.interval.toNat ∧ x.interval.toNat ≤ 16) &&
    [x.policy, x.classLeak, x.classZero, x.classOil, x.classSpot, x.spotMask].all fun b => decide (b.toNat ≤ 1)

/-- A class from its code. -/
def classOf (b : Byte) : Class := if b = 1 then .low else .high

/-- The settings are replaced all at once (R164). -/
def writeSettings (x : SettingsRecord) (s : State) : State :=
  let s :=
    s.withZero
      { s.zero with
        ventOffset := x.ventOffset.toNat, tolerance := x.tolerance.toNat, interval := x.interval.toNat
        policy := if x.policy = 1 then .flag else .halt }
  let s :=
    s.withConv
      { s.conv with
        classes := ⟨classOf x.classLeak, classOf x.classZero, classOf x.classOil, classOf x.classSpot⟩
        spotMasked := x.spotMask == 1 }
  s.withPorts
    { s.ports with rights := ⟨x.lineRights.getLsbD 0, x.lineRights.getLsbD 1, x.lineRights.getLsbD 2⟩ }

/-- SETTINGS WRITE (R164). -/
def settingsWriteDecide (x : SettingsRecord) (s : State) : Reply × State :=
  if !betweenTests s then (plain .mode, s)
  else if !settingsGood x then (plain .range, s)
  else (plain .ok, writeSettings x s)

def settingsWrite (p : Port) (x : SettingsRecord) (s : State) : State :=
  portRequest p .settingsWrite true (settingsWriteDecide x) s

def execSettingsWrite (p : Port) (x : SettingsRecord) (s : State) : Host.Outcome State Fault Refusal :=
  .next (settingsWrite p x s)

/-- SETTINGS READ (R164). -/
def settingsReadDecide (s : State) : Reply × State := (⟨.ok, settingsBytes s ++ routeBytes s⟩, s)

def settingsRead (p : Port) (s : State) : State := portRequest p .settingsRead true settingsReadDecide s

def execSettingsRead (p : Port) (s : State) : Host.Outcome State Fault Refusal := .next (settingsRead p s)

/-! ## Routes -/

/-- An event source from its priority number (R166, R170). -/
def sourceOf (b : Byte) : Option (Fin 11) := allSources.find? fun i => i.val + 1 == b.toNat

/-- Marks of a source on a port that a route leaves out are cleared (R165). -/
def dropMark (i : Fin 11) (r : Route) (u : EventUnit) (p : Port) : EventUnit :=
  if r.has p then u else u.clearMark p i

/-- A source's route is replaced (R165). -/
def setRoute (i : Fin 11) (r : Route) (u : EventUnit) : EventUnit :=
  dropMark i r (dropMark i r { u with routes := u.routes.set i r } .line) .cell

/-- ROUTE WRITE (R165). -/
def routeWriteDecide (source route : Byte) (s : State) : Reply × State :=
  match sourceOf source, routeOfCode route.toNat with
  | some i, some r => (plain .ok, s.withEvents (setRoute i r s.events))
  | _, _ => (plain .range, s)

def routeWrite (p : Port) (source route : Byte) (s : State) : State :=
  portRequest p .routeWrite true (routeWriteDecide source route) s

def execRouteWrite (p : Port) (source route : Byte) (s : State) : Host.Outcome State Fault Refusal :=
  .next (routeWrite p source route s)

end Sys2Proof.Machine
end

