-- ==== Sys2Proof/Machine/RecipeOps.lean ====
section
/-! DEFINITION. Validation of a recipe (R25 to R29) and the working copy with its patches (R34). -/

namespace Sys2Proof.Machine

/-- A validation check: whether it passes, its reported item and its examined items (R25). -/
structure RecipeCheck where
  passes : Bool
  reported : ItemRef
  examined : List ItemRef
  deriving DecidableEq, Repr

/-- The stored value of an item. -/
def itemOf (r : Items) (t : ItemRef) : Nat := item r ((itemOffset t).getD 436)

/-- A check of one item's range: it reports and examines the item itself (R25). -/
def rangeCheck (r : Items) (t : ItemRef) (lo hi : Nat) : RecipeCheck :=
  ⟨decide (lo ≤ itemOf r t ∧ itemOf r t ≤ hi), t, [t]⟩

/-- The GENERAL checks (R26). -/
def generalChecks (r : Items) : List RecipeCheck :=
  [rangeCheck r ⟨0, 0, 0⟩ 1 24, rangeCheck r ⟨0, 0, 1⟩ 100 10000, rangeCheck r ⟨0, 0, 2⟩ 2330 4230,
   rangeCheck r ⟨0, 0, 3⟩ 2330 4230,
   ⟨decide (oilPrewarn r < oilShutdown r), ⟨0, 0, 3⟩, [⟨0, 0, 2⟩, ⟨0, 0, 3⟩]⟩]

/-- The checks of step k that keep loops apart, one for each earlier step with a loop (R27 check 3). -/
def loopChecks (r : Items) (k : Nat) : List RecipeCheck :=
  ((List.range k).filter fun j => loopTarget r j != loopNone).map fun j =>
    ⟨decide (j < loopTarget r k), ⟨1, k, 10⟩, [⟨1, k, 10⟩, ⟨1, j, 10⟩]⟩

/-- The checks of one step (R27). -/
def stepChecks (r : Items) (k : Nat) : List RecipeCheck :=
  [rangeCheck r ⟨1, k, 0⟩ 0 1, rangeCheck r ⟨1, k, 1⟩ 0 1, rangeCheck r ⟨1, k, 2⟩ 0 4000,
   rangeCheck r ⟨1, k, 3⟩ 0 30000, rangeCheck r ⟨1, k, 4⟩ 5 50, rangeCheck r ⟨1, k, 5⟩ 0 60000,
   rangeCheck r ⟨1, k, 6⟩ 0 6000, rangeCheck r ⟨1, k, 7⟩ 0 1, rangeCheck r ⟨1, k, 8⟩ 0 1,
   rangeCheck r ⟨1, k, 9⟩ 0 1,
   ⟨loopTarget r k == loopNone || decide (loopTarget r k ≤ k), ⟨1, k, 10⟩, [⟨1, k, 10⟩]⟩] ++
  (if loopTarget r k = loopNone then [] else loopChecks r k ++ [rangeCheck r ⟨1, k, 11⟩ 1 15])

/-- A used order slot has some limit that is not 0 (R28 check 8). -/
def usedLimit (r : Items) : Bool := (List.range 128).any fun i => order r (i / 32) != 0 && limitAt r i != 0

/-- The NOISE checks (R28). -/
def noiseChecks (r : Items) : List RecipeCheck :=
  let orders : List ItemRef := (List.range 4).map fun j => ⟨2, j, 1⟩
  let limits : List ItemRef := (List.range 128).map fun i => ⟨2, i, 5⟩
  rangeCheck r ⟨2, 0, 0⟩ 0 1 ::
  (if noiseEnabled r then
    orders.map (fun t => rangeCheck r t 0 255) ++
    [rangeCheck r ⟨2, 0, 2⟩ 1 16, rangeCheck r ⟨2, 0, 3⟩ 0 4000, rangeCheck r ⟨2, 0, 4⟩ 10 500,
     ⟨decide (lowBinSpeed r + 16 * binWidth r ≤ 6000), ⟨2, 0, 4⟩, [⟨2, 0, 3⟩, ⟨2, 0, 4⟩]⟩] ++
    limits.map (fun t => rangeCheck r t 0 32767) ++
    [⟨(List.range 4).any fun j => order r j != 0, ⟨2, 0, 0⟩, orders⟩,
     ⟨usedLimit r, ⟨2, 0, 0⟩, orders ++ limits⟩,
     ⟨(List.range (min 24 (stepCount r))).any (noiseWindow r), ⟨2, 0, 0⟩,
       ⟨0, 0, 0⟩ :: (List.range 24).map fun k => ⟨1, k, 8⟩⟩]
  else [])

/-- The LEAK checks (R29). -/
def leakChecks (r : Items) : List RecipeCheck :=
  rangeCheck r ⟨3, 0, 0⟩ 0 1 ::
  (if leakEnabled r then
    [⟨decide (triggerStep r < stepCount r), ⟨3, 0, 1⟩, [⟨3, 0, 1⟩, ⟨0, 0, 0⟩]⟩,
     rangeCheck r ⟨3, 0, 2⟩ 11000 40000, rangeCheck r ⟨3, 0, 3⟩ 10 600, rangeCheck r ⟨3, 0, 4⟩ 1 600,
     rangeCheck r ⟨3, 0, 5⟩ 1000 60000, rangeCheck r ⟨3, 0, 6⟩ 1 16, rangeCheck r ⟨3, 0, 7⟩ 1 65535,
     ⟨(List.range (min 24 (stepCount r))).any fun k => decide (triggerStep r ≤ k) && leakQuiet r k, ⟨3, 0, 1⟩,
       ⟨3, 0, 1⟩ :: ⟨0, 0, 0⟩ :: (List.range 24).map fun k => ⟨1, k, 9⟩⟩]
  else [])

/-- All validation checks in their order (R26 to R29). STEP COUNT is checked first, so that a later check finds it in 1 to
24 (R26). -/
def allChecks (r : Items) : List RecipeCheck :=
  generalChecks r ++ (List.range (min 24 (stepCount r))).flatMap (stepChecks r) ++ noiseChecks r ++ leakChecks r

/-- The first check that fails (R25). -/
def firstFailure (r : Items) : Option RecipeCheck := (allChecks r).find? fun c => !c.passes

/-- The patch entries in entry order. -/
def allEntries : List (Fin 8) := [0, 1, 2, 3, 4, 5, 6, 7]

/-- An entry applies to a recipe's working copies (R34 step 2). -/
def patchApplies (st : RecipeStore) (recipe : Nat) (e : Fin 8) : Bool :=
  (st.patches[e]).enabled && (st.patches[e]).recipe == recipe

/-- The copy of a recipe with its patches applied in entry order (R34 steps 1 and 2). -/
def patchedCopy (st : RecipeStore) (recipe : Nat) (r : Items) : Items :=
  (allEntries.filter (patchApplies st recipe)).foldl
    (fun acc e => setItem acc (st.patches[e]).target (st.patches[e]).value) r

/-- The lowest applied patch whose target a failed check examines (R34). -/
def chargedPatch (st : RecipeStore) (recipe : Nat) (c : RecipeCheck) : Option (Fin 8) :=
  allEntries.find? fun e => patchApplies st recipe e && c.examined.contains (st.patches[e]).target

/-- A recipe slot by number. -/
def recipeAt (st : RecipeStore) (n : Nat) : Option Recipe := st.recipes[n]?

/-- The recipe id names a slot that is VALID. -/
def recipeValid (st : RecipeStore) (n : Nat) : Bool :=
  match recipeAt st n with
  | some r => r.valid
  | none => false

end Sys2Proof.Machine
end

