-- ==== Sys2Proof/Machine/Recipes.lean ====
section
/-! DEFINITION. The commands of the Recipe Store (spec/02). -/

namespace Sys2Proof.Machine

/-- A target from its three bytes (R21). -/
def target (sect index field : Byte) : ItemRef := ⟨sect.toNat, index.toNat, field.toNat⟩

/-- Replace a recipe slot. -/
def setRecipe (n : Nat) (r : Recipe) (s : State) : State :=
  s.withStore { s.store with recipes := s.store.recipes.setIfInBounds n r }

/-- RECIPE WRITE (R22, R23). -/
def recipeWriteDecide (recipe sect index field : Byte) (values : List Word16) (s : State) : Reply × State :=
  match recipeAt s.store recipe.toNat, runOffset (target sect index field) values.length with
  | some r, some o =>
    (plain .ok, setRecipe recipe.toNat ⟨writeItems r.items o (values.map BitVec.toNat), false⟩ s)
  | _, _ => (plain .range, s)

def recipeWrite (p : Port) (recipe sect index field : Byte) (values : List Word16) (s : State) : State :=
  portRequest p .recipeWrite true (recipeWriteDecide recipe sect index field values) s

def execRecipeWrite (p : Port) (recipe sect index field : Byte) (values : List Word16) (s : State) :
    Host.Outcome State Fault Refusal := .next (recipeWrite p recipe sect index field values s)

/-- RECIPE READ (R24). -/
def recipeReadDecide (recipe sect index field count : Byte) (s : State) : Reply × State :=
  match recipeAt s.store recipe.toNat, runOffset (target sect index field) count.toNat with
  | some r, some o =>
    (⟨.ok, flagByte r.valid :: (List.range count.toNat).flatMap fun k => be16 (item r.items (o + k))⟩, s)
  | _, _ => (plain .range, s)

def recipeRead (p : Port) (recipe sect index field count : Byte) (s : State) : State :=
  portRequest p .recipeRead true (recipeReadDecide recipe sect index field count) s

def execRecipeRead (p : Port) (recipe sect index field count : Byte) (s : State) : Host.Outcome State Fault Refusal :=
  .next (recipeRead p recipe sect index field count s)

/-- RECIPE VALIDATE (R25). -/
def recipeValidateDecide (recipe : Byte) (s : State) : Reply × State :=
  match recipeAt s.store recipe.toNat with
  | none => (plain .range, s)
  | some r =>
    match firstFailure r.items with
    | none => (plain .ok, raise (.recipe recipe.toNat none) (setRecipe recipe.toNat ⟨r.items, true⟩ s))
    | some c =>
      (⟨.recipe, itemBytes c.reported⟩,
        raise (.recipe recipe.toNat (some c.reported)) (setRecipe recipe.toNat ⟨r.items, false⟩ s))

def recipeValidate (p : Port) (recipe : Byte) (s : State) : State :=
  portRequest p .recipeValidate true (recipeValidateDecide recipe) s

def execRecipeValidate (p : Port) (recipe : Byte) (s : State) : Host.Outcome State Fault Refusal :=
  .next (recipeValidate p recipe s)

/-- PATCH WRITE is out of range (R31 check 1). -/
def patchRangeGood (entry enabled recipe : Byte) (t : ItemRef) : Bool :=
  decide (entry.toNat < 8 ∧ enabled.toNat ≤ 1 ∧ recipe.toNat < 12) && (itemOffset t).isSome

/-- Another entry is enabled with the same recipe and target (R31 check 2). -/
def patchClash (st : RecipeStore) (entry recipe : Nat) (t : ItemRef) : Bool :=
  allEntries.any fun e => e.val != entry && patchApplies st recipe e && (st.patches[e]).target == t

/-- PATCH WRITE (R31, R32). -/
def patchWriteDecide (entry enabled recipe sect index field : Byte) (value : Word16) (s : State) : Reply × State :=
  let t := target sect index field
  if !patchRangeGood entry enabled recipe t then (plain .range, s)
  else if enabled.toNat = 1 ∧ patchClash s.store entry.toNat recipe.toNat t = true then (plain .duplicate, s)
  else
    (plain .ok,
      s.withStore
        { s.store with
          patches :=
            s.store.patches.setIfInBounds entry.toNat ⟨enabled.toNat == 1, recipe.toNat, t, value.toNat⟩ })

def patchWrite (p : Port) (entry enabled recipe sect index field : Byte) (value : Word16) (s : State) : State :=
  portRequest p .patchWrite true (patchWriteDecide entry enabled recipe sect index field value) s

def execPatchWrite (p : Port) (entry enabled recipe sect index field : Byte) (value : Word16) (s : State) :
    Host.Outcome State Fault Refusal := .next (patchWrite p entry enabled recipe sect index field value s)

/-- PATCH READ (R33). -/
def patchReadDecide (entry : Byte) (s : State) : Reply × State :=
  match s.store.patches[entry.toNat]? with
  | none => (plain .range, s)
  | some e => (⟨.ok, [flagByte e.enabled, byte e.recipe] ++ itemBytes e.target ++ be16 e.value⟩, s)

def patchRead (p : Port) (entry : Byte) (s : State) : State := portRequest p .patchRead true (patchReadDecide entry) s

def execPatchRead (p : Port) (entry : Byte) (s : State) : Host.Outcome State Fault Refusal := .next (patchRead p entry s)

end Sys2Proof.Machine
end

