-- ==== Sys2Proof/Machine/Records.lean ====
section
/-! DEFINITION. The commands of the Record Queue (spec/10). -/

namespace Sys2Proof.Machine

/-! ## INDUCT -/

/-- A serial that INDUCT takes (R146 check 2). -/
def serialGood (serial : List Byte) : Bool :=
  decide (1 ≤ serial.length ∧ serial.length ≤ 20) &&
    serial.all fun b => decide (0x21 ≤ b.toNat ∧ b.toNat ≤ 0x7E)

/-- A record that no longer holds its serial (R147). -/
def collected (r : Record) : Bool := r.state == .decided && r.released

/-- The highest retest number of the present records with a serial, plus 1; 0 with none present (R147). -/
def nextRetest (s : State) (serial : List Byte) : Nat :=
  (allSlots.filter (slotHas s fun r => r.serial == serial)).foldl
    (fun n i =>
      match recordAt s i with
      | some r => max n (r.retest + 1)
      | none => n)
    0

/-- A record as INDUCT makes it (R144). -/
def newRecord (serial : List Byte) (recipe retest : Nat) (seq : Word16) : Record :=
  { serial := serial, recipe := recipe, retest := retest, seq := seq, state := .queued, released := false
    archived := false, runIn := none, noise := none, leak := none, zero := none, faults := [], overflow := .clear
    verdict := none }

/-- An accepted INDUCT (R145, R146). -/
def inductRecord (i : Fin 16) (r : Record) (s : State) : State :=
  let s := s.withQueue { slots := s.queue.slots.set i (some r), nextSeq := s.queue.nextSeq + 1 }
  if presentCount s = 16 then raise (.queueFull i) s else s

/-- The checks of INDUCT in their order (R146, R147). -/
def inductDecide (serial : List Byte) (recipe : Byte) (s : State) : Reply × State :=
  if s.mode.mode = .halt then (plain .halted, s)
  else if !serialGood serial then (plain .serial, s)
  else if !recipeValid s.store recipe.toNat then (plain .recipe, s)
  else
    match emptySlot s with
    | none => (plain .full, s)
    | some i =>
      match oldestSlot s fun r => r.serial == serial && !collected r with
      | some j => (⟨.duplicate, [byte j.val]⟩, s)
      | none =>
        let retest := nextRetest s serial
        if 3 < retest then (plain .retest, s)
        else
          (⟨.ok, [byte i.val] ++ be16 s.queue.nextSeq.toNat ++ [byte retest]⟩,
            inductRecord i (newRecord serial recipe.toNat retest s.queue.nextSeq) s)

def induct (p : Port) (serial : List Byte) (recipe : Byte) (s : State) : State :=
  portRequest p .induct true (inductDecide serial recipe) s

def execInduct (p : Port) (serial : List Byte) (recipe : Byte) (s : State) : Host.Outcome State Fault Refusal :=
  .next (induct p serial recipe s)

/-! ## START -/

/-- The run-in section at START (R55). -/
def newRunIn : RunInSection :=
  { stepsCompleted := 0, lastStep := 0, maxOil := 0, maxTorque := 0, prewarnSeen := false, runTime := 0 }

/-- The noise section at START (R102). -/
def newNoise : NoiseSection :=
  { peaks := Vector.replicate 128 0, coverage := Vector.replicate 32 false, discards := 0, outcome := none }

/-- The leak section at START (R121). -/
def newLeak : LeakSection :=
  { startValues := none, endValues := none, rate := none, rise := false, outcome := none, attempts := 0
    endOf1 := none, endOf2 := none }

/-- The record as START puts it ON TEST, with its sections (R148). -/
def startRecord (copy : Items) (r : Record) : Record :=
  { r with
    state := .onTest
    runIn := some newRunIn
    noise := if noiseEnabled copy then some newNoise else none
    leak := if leakEnabled copy then some newLeak else none
    zero := if leakEnabled copy then some .unchecked else none }

/-- The test context at its creation (R40); the start of step 0 sets its phase. -/
def newContext (copy : Items) : TestContext :=
  { copy := copy, step := 0, phase := .ramp, loop := 0, stepTimer := .unloaded, standstill := .stopped, dwell := .stopped
    started := Vector.replicate 24 false, resumeRamp := false, requestHeld := false }

/-- An admitted START (R17, R35, R38, R40, R71, R79, R110, R148): the record, the set-up of the other blocks, the context, the
mode, then step 0. The discarded-block count becomes 0 at each START (R87, R106). -/
def startTest (i : Fin 16) (copy : Items) (s : State) : State :=
  let s := leakSetUp (modifyRecord i (startRecord copy) s)
  let s := s.withNoise { s.noise with discards := 0 }
  let s := s.withCtx (some (newContext copy))
  let s := s.withDemand { s.demand with limit := inputTorqueLimit copy }
  supplyJudge (sequence (.startStep 0) (judgeMonitors (setMode .run s)))

/-- A START whose working copy fails a check (R34). -/
def startFailure (st : RecipeStore) (recipe : Nat) (c : RecipeCheck) : Reply :=
  match chargedPatch st recipe c with
  | some e => ⟨.patch, byte e.val :: itemBytes c.reported⟩
  | none => ⟨.recipe, itemBytes c.reported⟩

/-- The slot, sequence number and retest number of a record (R146, R148). -/
def recordReply (i : Fin 16) (r : Record) : Reply := ⟨.ok, [byte i.val] ++ be16 r.seq.toNat ++ [byte r.retest]⟩

/-- Checks 5 and 6 of START on the oldest QUEUED record (R34, R148). -/
def startRecipe (i : Fin 16) (r : Record) (s : State) : Reply × State :=
  match recipeAt s.store r.recipe with
  | none => (plain .recipe, s)
  | some x =>
    if !x.valid then (plain .recipe, s)
    else
      let copy := patchedCopy s.store r.recipe x.items
      match firstFailure copy with
      | some c => (startFailure s.store r.recipe c, s)
      | none => (recordReply i r, startTest i copy s)

/-- The checks of START in their order (R148). -/
def startDecide (s : State) : Reply × State :=
  if s.mode.mode = .halt then (plain .halted, s)
  else if s.mode.mode ≠ .ready then (plain .mode, s)
  else
    match oldestSlot s fun r => r.state == .queued with
    | none => (plain .none, s)
    | some i =>
      if !s.zero.refValid then (plain .zero, s)
      else
        match recordAt s i with
        | none => (plain .none, s)
        | some r => startRecipe i r s

def start (p : Port) (s : State) : State := portRequest p .start true startDecide s

def execStart (p : Port) (s : State) : Host.Outcome State Fault Refusal := .next (start p s)

/-! ## ABORT -/

/-- The value of an ABORTED entry by the port of its ABORT (R149). -/
def abortCause : Port → Nat
  | .line => 1
  | .cell => 2

/-- ABORT (R149, R17). -/
def abortDecide (p : Port) (s : State) : Reply × State :=
  match onTestSlot s with
  | some i => (⟨.ok, [byte i.val]⟩, enterSettle .ready (abortTest (abortCause p) s))
  | none => (plain .none, s)

def abort (p : Port) (s : State) : State := portRequest p .abort true (abortDecide p) s

def execAbort (p : Port) (s : State) : Host.Outcome State Fault Refusal := .next (abort p s)

/-! ## VERDICT -/

/-- A record that VERDICT takes (R154). -/
def uncollected (r : Record) : Bool := r.state == .decided && !r.released

/-- The reply to VERDICT (R154, R170). DEDUCED (log entry 29): the serial field of 20 bytes is zero-filled, as IDENTITY's is. -/
def verdictReply (i : Fin 16) (r : Record) : Reply :=
  ⟨.ok, [byte i.val, byte r.serial.length] ++ padded 20 r.serial ++
    [byte r.retest, byte (verdictCode r.verdict), byte (zeroStatusCode r.zero)]⟩

/-- VERDICT (R154). -/
def verdictDecide (s : State) : Reply × State :=
  match oldestSlot s uncollected with
  | none => (plain .none, s)
  | some i =>
    match recordAt s i with
    | none => (plain .none, s)
    | some r =>
      (verdictReply i r, if r.archived then removeRecord i s else modifyRecord i (fun r => { r with released := true }) s)

def verdict (p : Port) (s : State) : State := portRequest p .verdict true verdictDecide s

def execVerdict (p : Port) (s : State) : Host.Outcome State Fault Refusal := .next (verdict p s)

/-! ## ARCHIVE -/

/-- ARCHIVE (R155). -/
def archiveDecide (slot : Byte) (s : State) : Reply × State :=
  match slotOf slot with
  | none => (plain .range, s)
  | some i =>
    match recordAt s i with
    | none => (plain .none, s)
    | some r =>
      if r.state ≠ .decided then (plain .mode, s)
      else
        (plain .ok, if r.released then removeRecord i s else modifyRecord i (fun r => { r with archived := true }) s)

def archive (p : Port) (slot : Byte) (s : State) : State := portRequest p .archive true (archiveDecide slot) s

def execArchive (p : Port) (slot : Byte) (s : State) : Host.Outcome State Fault Refusal := .next (archive p slot s)

/-! ## RECORD_READ -/

/-- The bytes of a chunk (R156). -/
def chunkBytes (k : Nat) (bs : List Byte) : List Byte := (bs.drop (56 * k)).take 56

/-- RECORD READ, steps 2 to 4 of R156. -/
def recordReadDecide (slot sect chunk : Byte) (s : State) : Reply × State :=
  match slotOf slot with
  | none => (plain .range, s)
  | some i =>
    if 4 < sect.toNat then (plain .range, s)
    else
      match (recordAt s i).bind fun r => sectionBytes r sect.toNat with
      | none => (plain .none, s)
      | some bs =>
        if bs.length ≤ 56 * chunk.toNat then (plain .range, s)
        else (⟨.ok, be16 bs.length ++ [chunk] ++ chunkBytes chunk.toNat bs⟩, s)

def recordRead (p : Port) (slot sect chunk : Byte) (s : State) : State :=
  portRequest p .recordRead (mayRead p sect.toNat) (recordReadDecide slot sect chunk) s

def execRecordRead (p : Port) (slot sect chunk : Byte) (s : State) : Host.Outcome State Fault Refusal :=
  .next (recordRead p slot sect chunk s)

end Sys2Proof.Machine
end

