-- ==== Sys2Proof/Machine/SupervisionEvents.lean ====
section
/-! DEFINITION. The timer events of the Supervision Monitors and the commands that read and clear the latches (spec/05). -/

namespace Sys2Proof.Machine

/-- The expiry of a running filter timer (R69): the latch is set and the timer stopped. -/
def filterExpiry (m : FilteredMonitor) (s : State) : State :=
  if (s.sup.filters.get m).isRunning then
    let v := (monitorFails s m).getD 0
    latch (monitorLatch m) v (setFilter m .stopped s)
  else s

def execFilterTimerExpiry (m : FilteredMonitor) (s : State) : Host.Outcome State Fault Refusal := .next (filterExpiry m s)

/-- The expiry of the running oil request timer (R76). -/
def oilRequestExpiry (s : State) : State :=
  if s.sup.oilRequest.isRunning then
    requestUnlessPending .oil (.single .to) (s.withSup { s.sup with oilRequest := .running Config.oilRequestMs })
  else s

def execOilRequestTimerExpiry (s : State) : Host.Outcome State Fault Refusal := .next (oilRequestExpiry s)

/-- The expiry of the running stale timer (R76). Where a reading that arrived with it was taken first, that reading has
restarted the timer, and no latch is set. -/
def staleExpiry (s : State) : State :=
  if s.sup.stale.hasRun Config.staleMs then
    latch .tempStale (s.sup.lastOil.getD 0) (s.withSup { s.sup with stale := .stopped })
  else s

def execStaleTimerExpiry (s : State) : Host.Outcome State Fault Refusal := .next (staleExpiry s)

/-- FAULT READ (R83). -/
def faultReadDecide (s : State) : Reply × State := (⟨.ok, latchBytes s⟩, s)

def faultRead (p : Port) (s : State) : State := portRequest p .faultRead true faultReadDecide s

def execFaultRead (p : Port) (s : State) : Host.Outcome State Fault Refusal := .next (faultRead p s)

/-- All fifteen latches are cleared, and what R84 gives for it: the oil shutdown count, the stale timer while DRIVE ENABLE is
asserted, and the judgement of the filtered monitors, of which each active one whose condition holds starts its filter timer with the full
filter time. DEDUCED (log entry 26): a filter timer that runs already starts anew. -/
def clearLatches (s : State) : State :=
  judgeMonitors
    (s.withSup
      { s.sup with
        latches := Vector.replicate 15 none, oilCount := 0
        filters := ⟨.stopped, .stopped, .stopped, .stopped⟩
        stale := if driveEnable s then .running Config.staleMs else s.sup.stale })

/-- CLEAR FAULTS (R84). -/
def clearFaultsDecide (s : State) : Reply × State := (plain .ok, completionCheck (clearLatches s))

def clearFaults (p : Port) (s : State) : State := portRequest p .clearFaults true clearFaultsDecide s

def execClearFaults (p : Port) (s : State) : Host.Outcome State Fault Refusal := .next (clearFaults p s)

/-- FAULT READ AND CLEAR (R85). -/
def faultReadAndClearDecide (s : State) : Reply × State := (⟨.ok, latchBytes s⟩, completionCheck (clearLatches s))

def faultReadAndClear (p : Port) (s : State) : State :=
  portRequest p .faultReadAndClear true faultReadAndClearDecide s

def execFaultReadAndClear (p : Port) (s : State) : Host.Outcome State Fault Refusal := .next (faultReadAndClear p s)

/-- CELL CLEAR (R19): it abandons a zero check (R135) and ends the leak activity (R119) in any mode. DEDUCED (log entry 28): with an
entry to STOP at the same frame end it is one event of R119. -/
def cellClearDecide (s : State) : Reply × State :=
  let s := leakUndecided (abandonCheck s)
  let s := endTest (appendFault .cellClear 0 s)
  let s := clearLatches s
  let s := if s.mode.mode = .stop then leakToVent s else enterStopped .stop s
  (plain .ok, completionCheck (s.withMode { s.mode with target := some .idle }))

def cellClear (p : Port) (s : State) : State := portRequest p .cellClear true cellClearDecide s

def execCellClear (p : Port) (s : State) : Host.Outcome State Fault Refusal := .next (cellClear p s)

end Sys2Proof.Machine
end

