-- ==== Sys2Proof/Machine/Frames.lean ====
section
/-! DEFINITION. Frames: their start, the judgement of their bits at their end and the dispatch of the request (R158 to R162). -/

namespace Sys2Proof.Machine

/-- The effect of a request that a payload carries; decodeRequest forms no other command. -/
def requestEffect (i : Instr) (s : State) : State :=
  match i with
  | .readyRequest p => readyRequest p s
  | .idleRequest p => idleRequest p s
  | .pauseRequest p => pauseRequest p s
  | .resumeRequest p => resumeRequest p s
  | .induct p serial recipe => induct p serial recipe s
  | .start p => start p s
  | .abort p => abort p s
  | .verdict p => verdict p s
  | .archive p slot => archive p slot s
  | .recordRead p slot sect chunk => recordRead p slot sect chunk s
  | .status p => status p s
  | .event p => event p s
  | .faultRead p => faultRead p s
  | .clearFaults p => clearFaults p s
  | .faultReadAndClear p => faultReadAndClear p s
  | .cellClear p => cellClear p s
  | .recipeWrite p recipe sect index field values => recipeWrite p recipe sect index field values s
  | .recipeRead p recipe sect index field count => recipeRead p recipe sect index field count s
  | .recipeValidate p recipe => recipeValidate p recipe s
  | .patchWrite p entry enabled recipe sect index field value =>
    patchWrite p entry enabled recipe sect index field value s
  | .patchRead p entry => patchRead p entry s
  | .zeroCapture p => zeroCapture p s
  | .zeroCheck p => zeroCheck p s
  | .integrityLogRead p first => integrityLogRead p first s
  | .spotConvert p channel => spotConvert p channel s
  | .settingsWrite p settings => settingsWrite p settings s
  | .settingsRead p => settingsRead p s
  | .routeWrite p source route => routeWrite p source route s
  | .deviceReset _ | .guardInputChange _ _ | .supplyPauseTimerExpiry | .settleTimerExpiry | .cycleStart
  | .demandRampEnd | .cycleEnd | .statusMessage _ _ | .dwellTimerExpiry | .standstillTimerExpiry | .stepTimerExpiry
  | .runTimeTick | .filterTimerExpiry _ | .oilRequestTimerExpiry | .staleTimerExpiry | .encoderPulse _ _
  | .stallTimerExpiry | .sampleArrival _ _ | .fillTimerExpiry | .leakSettleTimerExpiry | .measureTimerExpiry
  | .leakRequestTimerExpiry | .checkTimerExpiry | .conversionCompletion _ | .frameStart _ | .frameEnd _ _
  | .unknownCommand _ _ => s

/-- The dispatch of a request, steps 1 to 5 (R161). -/
def dispatch (p : Port) (code : Byte) (payload : List Byte) (s : State) : State :=
  match commandOfCode code with
  | none => reply p (plain .unknown) s
  | some c =>
    if !allowed s.ports.rights p c then refuseAccess p c s
    else
      match decodeRequest p c payload with
      | none => reply p (plain .range) s
      | some i => requestEffect i s

/-- The bits that a frame has received before its last ones. -/
def Frame.bits : Frame → List Bool
  | .idle => []
  | .assembling _ _ received => received
  | .discarded => []

/-- The bytes that a frame sends (R159, R170), after which it sends zeros. -/
def frameBytes (status : Byte) (r : Reply) : List Byte := [status, byte r.code.toNat, byte r.data.length] ++ r.data

/-- The byte at place `k` of what a port sends in its frame, none outside one (R159). -/
def sentByte (s : State) (p : Port) (k : Nat) : Option Byte :=
  match (s.ports.get p).frame with
  | .assembling status sending _ => some ((frameBytes status sending)[k]?.getD 0)
  | .idle | .discarded => none

/-- DATA-OUT of a port in its frame, `edges` clock edges after select went low (R159): the attention output until the first
edge, then the bits of the bytes sent, bit 7 first (R170). -/
def dataOut (s : State) (p : Port) (edges : Nat) : Option Bool :=
  match edges with
  | 0 => (sentByte s p 0).map fun _ => attention s p
  | n + 1 => (sentByte s p (n / 8)).map fun b => b.getLsbD (7 - n % 8)

/-- Select goes low (R159): the status byte and the reply to send are taken, and no bit has been received. -/
def frameStart (p : Port) (s : State) : State :=
  s.withPorts
    (s.ports.set p { held := (s.ports.get p).held, frame := .assembling (statusByte s p) (s.ports.get p).held [] })

def execFrameStart (p : Port) (s : State) : Host.Outcome State Fault Refusal := .next (frameStart p s)

/-- Select goes high (R160). A frame that a device reset has discarded brings nothing (R158). -/
def frameEnd (p : Port) (bits : List Bool) (s : State) : State :=
  if (s.ports.get p).frame = .discarded then closeFrame p s
  else
    match judgeFrame ((s.ports.get p).frame.bits ++ bits) with
    | .noRequest => closeFrame p s
    | .frameError => reply p (plain .frame) s
    | .request code payload => dispatch p code payload s

def execFrameEnd (p : Port) (bits : List Bool) (s : State) : Host.Outcome State Fault Refusal := .next (frameEnd p bits s)

/-- The frame end of a request with no payload (R161 step 1). -/
def unknownCommand (p : Port) (code : Byte) (s : State) : State :=
  if (s.ports.get p).frame = .discarded then closeFrame p s else dispatch p code [] s

def execUnknownCommand (p : Port) (code : Byte) (s : State) : Host.Outcome State Fault Refusal :=
  .next (unknownCommand p code s)

end Sys2Proof.Machine
end

