-- ==== Sys2Proof/Machine/Guarding.lean ====
section
/-! DEFINITION. Device reset, the guard inputs and the timers of the Mode Controller (spec/01; the supply pause timer of R80). -/

namespace Sys2Proof.Machine

/-! ## DEVICE_RESET -/

/-- A frame in progress at a device reset is discarded (R158). -/
def Frame.discard : Frame → Frame
  | .idle => .idle
  | .assembling _ _ _ => .discarded
  | .discarded => .discarded

/-- Every item takes its reset value (R1). What is not the part's own state stays: the commands that wait, the count of open
orders, and that the select input of a port is low. -/
def deviceReset (inputs : GuardLevels) (s : State) : State :=
  let r := State.resetWith inputs
  ((r.withPorts
      { r.ports with
        line := { r.ports.line with frame := s.ports.line.frame.discard }
        cell := { r.ports.cell with frame := s.ports.cell.frame.discard } }).withOrders s.orders).withPending s.pending

def execDeviceReset (inputs : GuardLevels) (s : State) : Host.Outcome State Fault Refusal := .next (deviceReset inputs s)

/-! ## GUARD_INPUT_CHANGE -/

/-- The guard inputs with one at a level. -/
def setGuard (g : GuardLevels) (i : GuardInput) (high : Bool) : GuardLevels :=
  match i with
  | .estop => { g with estop := high }
  | .door => { g with door := high }
  | .clamp1 => { g with clamp1 := high }
  | .clamp2 => { g with clamp2 := high }
  | .clamp3 => { g with clamp3 := high }
  | .clamp4 => { g with clamp4 := high }

/-- The number of the lowest clamp input that is low (R3). -/
def lowestLowClamp (g : GuardLevels) : Nat :=
  if !g.clamp1 then 1 else if !g.clamp2 then 2 else if !g.clamp3 then 3 else if !g.clamp4 then 4 else 0

/-- A change that raises a GUARD event (R2). -/
def guardChanged (old new : GuardLevels) : Bool :=
  old.estop != new.estop || old.door != new.door || clamped old != clamped new

/-- The guard loss of a change: its latch and the value recorded with it (R3). -/
def guardLoss (old new : GuardLevels) : Option (LatchKind × Nat) :=
  if old.estop && !new.estop then some (.estop, 0)
  else if old.door && !new.door then some (.guard, 0)
  else if clamped old && !clamped new then some (.clamp, lowestLowClamp new)
  else none

/-- DRIVE ENABLE follows the guards (R4); `was` is its level before the arrival. -/
def followEnable (was : Bool) (s : State) : State :=
  if was && !driveEnable s then driveEnableFell s
  else if !was && driveEnable s then driveEnableRose s
  else s

/-- The latch of a guard loss, in READY, RUN, PAUSE and SETTLE (R3). -/
def guardLatch (loss : Option (LatchKind × Nat)) (s : State) : State :=
  match loss with
  | some (k, v) => if s.mode.mode.active then latch k v s else s
  | none => s

/-- An arrival at a guard input (R2 to R4). -/
def guardInputChange (i : GuardInput) (high : Bool) (s : State) : State :=
  let old := s.mode.guards
  let new := setGuard old i high
  let s' := followEnable (driveEnable s) (s.withMode { s.mode with guards := new })
  let s' := if guardChanged old new then raise (.guard new) s' else s'
  guardLatch (guardLoss old new) s'

def execGuardInputChange (i : GuardInput) (high : Bool) (s : State) : Host.Outcome State Fault Refusal :=
  .next (guardInputChange i high s)

/-! ## SUPPLY_PAUSE_TIMER_EXPIRY -/

/-- The SUPPLY entry at the expiry (R80): by a latching when the latch is CLEAR, else directly. -/
def supplyEntry (s : State) : State :=
  if latchSet s .supply then appendFault (.latch .supply) (supplyDrive s) s else latch .supply (supplyDrive s) s

/-- The expiry of a running supply pause timer (R80), reported to the Mode Controller (R15). -/
def supplyPauseExpiry (s : State) : State :=
  if s.sup.supplyPause.isRunning then
    let s := supplyEntry (s.withSup { s.sup with supplyPause := .stopped })
    if s.mode.mode = .pause ∧ s.mode.pauseKind = .supply then stopCause s else s
  else s

def execSupplyPauseTimerExpiry (s : State) : Host.Outcome State Fault Refusal := .next (supplyPauseExpiry s)

/-! ## SETTLE_TIMER_EXPIRY -/

/-- The expiry of a running settle timer in SETTLE (R14): NO STOP, and with it STOP. -/
def settleExpiry (s : State) : State :=
  if s.mode.settleTimer.isRunning = true ∧ s.mode.mode = .settle then latch .noStop (highestSpeed s) s else s

def execSettleTimerExpiry (s : State) : Host.Outcome State Fault Refusal := .next (settleExpiry s)

end Sys2Proof.Machine
end

