-- ==== Sys2Proof/Machine/LeakEvents.lean ====
section
/-! DEFINITION. The timer events of the Leak Controller (spec/07). -/

namespace Sys2Proof.Machine

/-- A gross leak (R111): the expiry of the fill timer in FILL. -/
def grossLeak (s : State) : State :=
  let attempt := s.leak.attempts
  let v := s.leak.lastFill.getD 0
  let s := setLeakOutcome .fail (leakLeave s)
  leakEnterVent (postEndReason attempt .gross (appendFault .leakGross v s))

/-- The expiry of a running fill timer in FILL (R111). -/
def fillExpiry (s : State) : State :=
  if s.leak.phase = .fill ∧ s.leak.fill.isRunning = true then grossLeak s else s

def execFillTimerExpiry (s : State) : Host.Outcome State Fault Refusal := .next (fillExpiry s)

/-- The expiry of a running leak settle timer (R112): MEASURE is entered with its start burst (R113). -/
def leakSettleExpiry (s : State) : State :=
  match s.ctx with
  | some c =>
    if s.leak.phase = .settle ∧ s.leak.settle.isRunning = true then
      leakAskBurst c .start (s.withLeak { s.leak with phase := .measure, settle := .stopped })
    else s
  | none => s

def execLeakSettleTimerExpiry (s : State) : Host.Outcome State Fault Refusal := .next (leakSettleExpiry s)

/-- The expiry of a running measure timer (R113): the end burst is asked for. -/
def measureExpiry (s : State) : State :=
  match s.ctx with
  | some c =>
    if s.leak.phase = .measure ∧ s.leak.measure.isRunning = true then
      leakAskBurst c .finish (s.withLeak { s.leak with measure := .stopped })
    else s
  | none => s

def execMeasureTimerExpiry (s : State) : Host.Outcome State Fault Refusal := .next (measureExpiry s)

/-- The expiry of a running leak request timer (R109). -/
def leakRequestExpiry (s : State) : State :=
  if s.leak.request.isRunning = true ∧ (s.leak.phase = .fill ∨ s.leak.phase = .vent) then
    requestUnlessPending .leak (.single .p) (s.withLeak { s.leak with request := .running Config.leakRequestMs })
  else s

def execLeakRequestTimerExpiry (s : State) : Host.Outcome State Fault Refusal := .next (leakRequestExpiry s)

end Sys2Proof.Machine
end

