-- ==== Sys2Proof/Machine/OrderOps.lean ====
section
/-! DEFINITION. Order analysis (spec/06): the sine table (R90), the pulse tracker (R88), sample angles and accumulation (R94,
R95), and the evaluation and post of a block (R97 to R103). -/

namespace Sys2Proof.Machine

/-! ## The sine table -/

/-- SINE[0] to SINE[256] (R90): 32,767 times the sine, rounded to the nearest whole number. -/
def sineQuarter : List Nat :=
  [0, 201, 402, 603, 804, 1005, 1206, 1407, 1608, 1809, 2009, 2210, 2410, 2611, 2811, 3012,
   3212, 3412, 3612, 3811, 4011, 4210, 4410, 4609, 4808, 5007, 5205, 5404, 5602, 5800, 5998, 6195,
   6393, 6590, 6786, 6983, 7179, 7375, 7571, 7767, 7962, 8157, 8351, 8545, 8739, 8933, 9126, 9319,
   9512, 9704, 9896, 10087, 10278, 10469, 10659, 10849, 11039, 11228, 11417, 11605, 11793, 11980, 12167, 12353] ++
  [12539, 12725, 12910, 13094, 13279, 13462, 13645, 13828, 14010, 14191, 14372, 14553, 14732, 14912, 15090, 15269,
   15446, 15623, 15800, 15976, 16151, 16325, 16499, 16673, 16846, 17018, 17189, 17360, 17530, 17700, 17869, 18037,
   18204, 18371, 18537, 18703, 18868, 19032, 19195, 19357, 19519, 19680, 19841, 20000, 20159, 20317, 20475, 20631,
   20787, 20942, 21096, 21250, 21403, 21554, 21705, 21856, 22005, 22154, 22301, 22448, 22594, 22739, 22884, 23027] ++
  [23170, 23311, 23452, 23592, 23731, 23870, 24007, 24143, 24279, 24413, 24547, 24680, 24811, 24942, 25072, 25201,
   25329, 25456, 25582, 25708, 25832, 25955, 26077, 26198, 26319, 26438, 26556, 26674, 26790, 26905, 27019, 27133,
   27245, 27356, 27466, 27575, 27683, 27790, 27896, 28001, 28105, 28208, 28310, 28411, 28510, 28609, 28706, 28803,
   28898, 28992, 29085, 29177, 29268, 29358, 29447, 29534, 29621, 29706, 29791, 29874, 29956, 30037, 30117, 30195] ++
  [30273, 30349, 30424, 30498, 30571, 30643, 30714, 30783, 30852, 30919, 30985, 31050, 31113, 31176, 31237, 31297,
   31356, 31414, 31470, 31526, 31580, 31633, 31685, 31736, 31785, 31833, 31880, 31926, 31971, 32014, 32057, 32098,
   32137, 32176, 32213, 32250, 32285, 32318, 32351, 32382, 32412, 32441, 32469, 32495, 32521, 32545, 32567, 32589,
   32609, 32628, 32646, 32663, 32678, 32692, 32705, 32717, 32728, 32737, 32745, 32752, 32757, 32761, 32765, 32766] ++
  [32767]

/-- The quarter table at an index of 0 to 256. -/
def quarterSine (k : Nat) : Int := (sineQuarter.getD k 0 : Nat)

/-- SINE[k] for k in 0 to 1,023 (R90), by the symmetry of the sine about its quarters. -/
def sine (k : Nat) : Int :=
  if k ≤ 256 then quarterSine k
  else if k ≤ 512 then quarterSine (512 - k)
  else if k ≤ 768 then -quarterSine (k - 512)
  else -quarterSine (1024 - k)

/-! ## Pulse tracker -/

/-- The pulse tracker at a pulse (R88). -/
def trackPulse (stamp : Stamp) (e : Direction) (o : OrderAnalyser) : OrderAnalyser :=
  let interval : Option Nat :=
    match o.lastPulse with
    | some q => if q.direction = e then some (max 1 (stamp - q.stamp).toNat) else none
    | none => none
  { o with lastPulse := some ⟨stamp, e⟩, interval := interval, stall := .running Config.stallTicks }

/-- A direction's sign (R87). -/
def directionSign : Direction → Int
  | .fwd => 1
  | .rev => -1

/-! ## Samples -/

/-- The fraction of a pulse (R94). -/
def sampleFraction (t interval : Nat) : Nat := min 127 (128 * t / interval)

/-- A sample's angle in angle units, 0 to 65,535 (R94). -/
def sampleAngle (pulses : Int) (d : Direction) (frac : Nat) : Nat :=
  ((128 * pulses + directionSign d * (frac : Int)) % 65536).toNat

/-- The table index of an order's phase at an angle (R95). -/
def phaseIndex (m angle : Nat) : Nat := m * angle % 65536 / 64

/-- One slot's accumulators after a sample (R95); an unused slot stays at 0. -/
def addSlot (copy : Items) (x : Int) (angle : Nat) (b : Block) (j : Nat) : Block :=
  if order copy j = 0 then b
  else
    let i := phaseIndex (order copy j) angle
    { b with
      inPhase := b.inPhase.setIfInBounds j (b.inPhase[j]?.getD 0 + x * sine ((i + 256) % 1024))
      quadrature := b.quadrature.setIfInBounds j (b.quadrature[j]?.getD 0 + x * sine i) }

/-- A sample accumulated for every used slot (R95). -/
def accumulate (copy : Items) (x : Int) (angle : Nat) (b : Block) : Block :=
  [0, 1, 2, 3].foldl (addSlot copy x angle) b

/-- A sample's defect marks (R93 step 1). -/
def markSample (w : SampleWord) (b : Block) : Block :=
  { b with
    linkMark := b.linkMark || !parityRight w
    clipMark := b.clipMark || sampleValue w == -32768 || sampleValue w == 32767 }

/-! ## Counted abandonment -/

/-- The open block is abandoned and counted, and the count is posted (R98). -/
def discardBlock (s : State) : State :=
  let n := min 255 (s.noise.discards + 1)
  postNoise (fun x => { x with discards := n }) (s.withNoise { s.noise with block := none, discards := n })

/-! ## Evaluation -/

/-- The integer square root by its binary digits: the greatest r below 2 ^ bits + `r` that is built on `r` and whose square
does not exceed n. -/
def rootDigits (n : Nat) : Nat → Nat → Nat
  | 0, r => r
  | bit + 1, r => if (r + 2 ^ bit) * (r + 2 ^ bit) ≤ n then rootDigits n bit (r + 2 ^ bit) else rootDigits n bit r

/-- The exact integer square root (R101 step 1). -/
def integerRoot (n : Nat) : Nat := rootDigits n (n.log2 / 2 + 1) 0

/-- An amplitude from the accumulators and the sample count (R101). -/
def amplitude (i q : Int) (n : Nat) : Nat :=
  let m := integerRoot (i.natAbs * i.natAbs + q.natAbs * q.natAbs)
  min 32767 ((2 * m + n * 32767 / 2) / (n * 32767))

/-- The speed of a block in rpm (R100), a free value where no tick lies between its start and its end (log entry 15). -/
def blockSpeed (revs duration : Nat) : Nat :=
  if duration = 0 then Config.instantSpeed revs else 600000000 * revs / duration

/-- The bin of a speed, none where the block is discarded as RANGE (R100). -/
def speedBin (copy : Items) (rpm : Nat) : Option Nat :=
  if rpm < lowBinSpeed copy then none
  else
    let b := (rpm - lowBinSpeed copy) / binWidth copy
    if b ≤ 15 then some b else none

/-- The index of a (slot, flank, bin) in the LIMIT items and the peak table (R102). -/
def cellIndex (j : Nat) (f : Flank) (b : Nat) : Nat := 32 * j + 16 * f.code + b

/-- Some peak of a (slot, flank) stands above a non-zero limit of its own (R103). -/
def flankExceeded (copy : Items) (n : NoiseSection) (j : Nat) (f : Flank) : Bool :=
  (List.range 16).any fun b =>
    limitAt copy (cellIndex j f b) != 0 && decide (limitAt copy (cellIndex j f b) < n.peaks[cellIndex j f b]?.getD 0)

/-- A slot's post appends a NOISE EXCEED entry (R103 step 1). -/
def exceeds (copy : Items) (n : NoiseSection) (j : Nat) (f : Flank) (b a : Nat) : Bool :=
  limitAt copy (cellIndex j f b) != 0 && decide (limitAt copy (cellIndex j f b) < a) && !flankExceeded copy n j f

/-- The post of one used slot (R103). -/
def postSlot (c : TestContext) (blk : Block) (b : Nat) (r : Record) (j : Nat) : Record :=
  if order c.copy j = 0 then r
  else
    match r.noise with
    | none => r
    | some n =>
      let a := amplitude (blk.inPhase[j]?.getD 0) (blk.quadrature[j]?.getD 0) blk.samples
      let i := cellIndex j blk.flank b
      let r := if exceeds c.copy n j blk.flank b a then appendEntry ⟨.noiseExceed j blk.flank b, c.step, a⟩ r else r
      { r with noise := some { n with peaks := n.peaks.setIfInBounds i (max (n.peaks[i]?.getD 0) a) } }

/-- The post of an evaluated block (R103): the slots in order, then the coverage mark. -/
def postBlock (c : TestContext) (blk : Block) (b : Nat) (r : Record) : Record :=
  let r := [0, 1, 2, 3].foldl (postSlot c blk b) r
  { r with
    noise := r.noise.map fun n => { n with coverage := n.coverage.setIfInBounds (16 * blk.flank.code + b) true } }

/-- A block's closure (R99 to R103). -/
def closeBlock (c : TestContext) (blk : Block) (stamp : Stamp) (s : State) : State :=
  if blk.linkMark || blk.clipMark || decide (blk.samples < 64) then discardBlock s
  else
    match speedBin c.copy (blockSpeed (blockRevs c.copy) (stamp - blk.start).toNat) with
    | none => discardBlock s
    | some b => post (postBlock c blk b) (s.withNoise { s.noise with block := none })

/-- A pulse acts on the open block (R97, R98). -/
def pulseBlock (blk : Block) (stamp : Stamp) (e : Direction) (s : State) : State :=
  if e ≠ blk.direction then discardBlock s
  else
    let blk := { blk with pulses := blk.pulses + directionSign blk.direction }
    let s := s.withNoise { s.noise with block := some blk }
    match s.ctx with
    | some c => if blk.pulses.natAbs = 512 * blockRevs c.copy then closeBlock c blk stamp s else s
    | none => s

/-- The test context under which the analysis licence holds (R91). -/
def licence (s : State) : Option TestContext :=
  match s.ctx with
  | some c =>
    if noiseEnabled c.copy = true ∧ s.mode.mode = .run ∧ noiseWindow c.copy c.step = true ∧ c.phase.moving = true then
      some c
    else none
  | none => none

/-- A new block at a pulse (R87, R92). -/
def newBlock (c : TestContext) (stamp : Stamp) (e : Direction) : Block :=
  { start := stamp, direction := e, flank := stepFlank c.copy c.step, pulses := 0, samples := 0
    inPhase := Vector.replicate 4 0, quadrature := Vector.replicate 4 0, linkMark := false, clipMark := false }

/-- A block start is considered (R92). -/
def considerStart (stamp : Stamp) (e : Direction) (s : State) : State :=
  match s.noise.block, s.noise.interval, licence s with
  | none, some _, some c => s.withNoise { s.noise with block := some (newBlock c stamp e) }
  | _, _, _ => s

/-- An encoder pulse (R88): the tracker, the open block, then a block start. -/
def encoderPulse (stamp : Stamp) (e : Direction) (s : State) : State :=
  let s := (s.withTicks stamp).withNoise (trackPulse stamp e s.noise)
  let s :=
    match s.noise.block with
    | some blk => pulseBlock blk stamp e s
    | none => s
  considerStart stamp e s

/-- A sample arrival (R93). DESIGN CHOICE (log entry 32): with a block open and T UNKNOWN, which no run reaches, the sample is
ignored. -/
def sampleArrival (stamp : Stamp) (w : SampleWord) (s : State) : State :=
  let s := s.withTicks stamp
  match s.noise.block, s.noise.lastPulse, s.noise.interval, s.ctx with
  | some blk, some q, some interval, some c =>
    let blk := markSample w blk
    if blk.samples = 65535 then discardBlock (s.withNoise { s.noise with block := some blk })
    else
      let angle := sampleAngle blk.pulses blk.direction (sampleFraction (stamp - q.stamp).toNat interval)
      let blk := accumulate c.copy (sampleValue w) angle { blk with samples := blk.samples + 1 }
      s.withNoise { s.noise with block := some blk }
  | _, _, _, _ => s

/-- A stall expiry (R89). -/
def stallExpiry (s : State) : State :=
  let s := s.withNoise { s.noise with lastPulse := none, interval := none, stall := .stopped }
  if s.noise.block.isSome then discardBlock s else s

end Sys2Proof.Machine
end

