-- ==== Sys2Proof/Machine/OrderEvents.lean ====
section
/-! DEFINITION. The events of the Order Analyser (spec/06). -/

namespace Sys2Proof.Machine

def execEncoderPulse (stamp : Stamp) (d : Direction) (s : State) : Host.Outcome State Fault Refusal :=
  .next (encoderPulse stamp d s)

/-- A pulse has been taken at the present tick and has restarted the stall timer (R88). -/
def pulseJustTaken (s : State) : Bool :=
  match s.noise.lastPulse with
  | some q => q.stamp == s.ticks && !s.noise.stall.hasRun Config.stallTicks
  | none => false

/-- The expiry of a running stall timer (R89). Where a pulse at the same tick was taken first, that pulse has restarted the
timer, and nothing expires (R88). -/
def stallTimerExpiry (s : State) : State :=
  if s.noise.stall.isRunning && !pulseJustTaken s then stallExpiry s else s

def execStallTimerExpiry (s : State) : Host.Outcome State Fault Refusal := .next (stallTimerExpiry s)

def execSampleArrival (stamp : Stamp) (w : SampleWord) (s : State) : Host.Outcome State Fault Refusal :=
  .next (sampleArrival stamp w s)

end Sys2Proof.Machine
end

