-- ==== Sys2Proof/Machine/RunInEvents.lean ====
section
/-! DEFINITION. The timer events of the test context (spec/03). -/

namespace Sys2Proof.Machine

/-- The expiry of a running dwell timer (R44). -/
def dwellExpiry (s : State) : State :=
  match s.ctx with
  | some c => if c.dwell.isRunning then dwellEnd c s else s
  | none => s

def execDwellTimerExpiry (s : State) : Host.Outcome State Fault Refusal := .next (dwellExpiry s)

/-- The expiry of a running standstill timer (R47). -/
def standstillExpiry (s : State) : State :=
  match s.ctx with
  | some c =>
    if c.standstill.isRunning then
      latch .noStop (highestSpeed s) (s.withCtx (some { c with standstill := .stopped }))
    else s
  | none => s

def execStandstillTimerExpiry (s : State) : Host.Outcome State Fault Refusal := .next (standstillExpiry s)

/-- The step timer runs. -/
def StepTimer.isRunning : StepTimer → Bool
  | .running _ => true
  | .frozen _ => false
  | .unloaded => false

/-- The expiry of a running step timer in HOLD, in RUN (R45, R46, R51). -/
def stepExpiry (s : State) : State :=
  match s.ctx with
  | some c =>
    if c.phase = .hold ∧ c.stepTimer.isRunning = true ∧ s.mode.mode = .run then sequence .complete s else s
  | none => s

def execStepTimerExpiry (s : State) : Host.Outcome State Fault Refusal := .next (stepExpiry s)

/-- 100 ms of a test have passed (R55). -/
def runTimeTick (s : State) : State :=
  if s.ctx.isSome then postRunIn (fun r => { r with runTime := min 65535 (r.runTime + 1) }) s else s

def execRunTimeTick (s : State) : Host.Outcome State Fault Refusal := .next (runTimeTick s)

end Sys2Proof.Machine
end

