-- ==== Sys2Proof/Machine/Dispatch.lean ====
section
/-! DEFINITION. The meaning of each command: one arm for each row of spec/opcode_table.json. -/

namespace Sys2Proof.Machine

def exec (i : Instr) (s : State) : Host.Outcome State Fault Refusal :=
  match i with
  | .deviceReset inputs => Sys2Proof.Machine.execDeviceReset inputs s
  | .guardInputChange input high => Sys2Proof.Machine.execGuardInputChange input high s
  | .supplyPauseTimerExpiry => Sys2Proof.Machine.execSupplyPauseTimerExpiry s
  | .settleTimerExpiry => Sys2Proof.Machine.execSettleTimerExpiry s
  | .readyRequest port => Sys2Proof.Machine.execReadyRequest port s
  | .idleRequest port => Sys2Proof.Machine.execIdleRequest port s
  | .pauseRequest port => Sys2Proof.Machine.execPauseRequest port s
  | .resumeRequest port => Sys2Proof.Machine.execResumeRequest port s
  | .cycleStart => Sys2Proof.Machine.execCycleStart s
  | .demandRampEnd => Sys2Proof.Machine.execDemandRampEnd s
  | .cycleEnd => Sys2Proof.Machine.execCycleEnd s
  | .statusMessage bytes monitorsFirst => Sys2Proof.Machine.execStatusMessage bytes monitorsFirst s
  | .dwellTimerExpiry => Sys2Proof.Machine.execDwellTimerExpiry s
  | .standstillTimerExpiry => Sys2Proof.Machine.execStandstillTimerExpiry s
  | .stepTimerExpiry => Sys2Proof.Machine.execStepTimerExpiry s
  | .runTimeTick => Sys2Proof.Machine.execRunTimeTick s
  | .filterTimerExpiry monitor => Sys2Proof.Machine.execFilterTimerExpiry monitor s
  | .oilRequestTimerExpiry => Sys2Proof.Machine.execOilRequestTimerExpiry s
  | .staleTimerExpiry => Sys2Proof.Machine.execStaleTimerExpiry s
  | .encoderPulse stamp direction => Sys2Proof.Machine.execEncoderPulse stamp direction s
  | .stallTimerExpiry => Sys2Proof.Machine.execStallTimerExpiry s
  | .sampleArrival stamp word => Sys2Proof.Machine.execSampleArrival stamp word s
  | .fillTimerExpiry => Sys2Proof.Machine.execFillTimerExpiry s
  | .leakSettleTimerExpiry => Sys2Proof.Machine.execLeakSettleTimerExpiry s
  | .measureTimerExpiry => Sys2Proof.Machine.execMeasureTimerExpiry s
  | .leakRequestTimerExpiry => Sys2Proof.Machine.execLeakRequestTimerExpiry s
  | .checkTimerExpiry => Sys2Proof.Machine.execCheckTimerExpiry s
  | .conversionCompletion value => Sys2Proof.Machine.execConversionCompletion value s
  | .frameStart port => Sys2Proof.Machine.execFrameStart port s
  | .frameEnd port bits => Sys2Proof.Machine.execFrameEnd port bits s
  | .unknownCommand port code => Sys2Proof.Machine.execUnknownCommand port code s
  | .induct port serial recipe => Sys2Proof.Machine.execInduct port serial recipe s
  | .start port => Sys2Proof.Machine.execStart port s
  | .abort port => Sys2Proof.Machine.execAbort port s
  | .verdict port => Sys2Proof.Machine.execVerdict port s
  | .archive port slot => Sys2Proof.Machine.execArchive port slot s
  | .recordRead port slot sect chunk => Sys2Proof.Machine.execRecordRead port slot sect chunk s
  | .status port => Sys2Proof.Machine.execStatus port s
  | .event port => Sys2Proof.Machine.execEvent port s
  | .faultRead port => Sys2Proof.Machine.execFaultRead port s
  | .clearFaults port => Sys2Proof.Machine.execClearFaults port s
  | .faultReadAndClear port => Sys2Proof.Machine.execFaultReadAndClear port s
  | .cellClear port => Sys2Proof.Machine.execCellClear port s
  | .recipeWrite port recipe sect index field values => Sys2Proof.Machine.execRecipeWrite port recipe sect index field values s
  | .recipeRead port recipe sect index field count => Sys2Proof.Machine.execRecipeRead port recipe sect index field count s
  | .recipeValidate port recipe => Sys2Proof.Machine.execRecipeValidate port recipe s
  | .patchWrite port entry enabled recipe sect index field value => Sys2Proof.Machine.execPatchWrite port entry enabled recipe sect index field value s
  | .patchRead port entry => Sys2Proof.Machine.execPatchRead port entry s
  | .zeroCapture port => Sys2Proof.Machine.execZeroCapture port s
  | .zeroCheck port => Sys2Proof.Machine.execZeroCheck port s
  | .integrityLogRead port first => Sys2Proof.Machine.execIntegrityLogRead port first s
  | .spotConvert port channel => Sys2Proof.Machine.execSpotConvert port channel s
  | .settingsWrite port settings => Sys2Proof.Machine.execSettingsWrite port settings s
  | .settingsRead port => Sys2Proof.Machine.execSettingsRead port s
  | .routeWrite port source route => Sys2Proof.Machine.execRouteWrite port source route s

end Sys2Proof.Machine
end

