-- ==== Sys2Proof/Machine/Time.lean ====
section
/-! DEFINITION. The passing of time: one millisecond on every timer that the spec counts in milliseconds or ticks (log entry 2). The
step timer and the demand ramp are counted by CYCLE_START, and no timer expires here. -/

namespace Sys2Proof.Machine

/-- The ticks of 100 ns in a millisecond (R88). -/
def ticksPerMs : Nat := 10000

/-- One millisecond on the timers of the test context (R40). -/
def passContext (c : TestContext) : TestContext := { c with standstill := c.standstill.pass 1, dwell := c.dwell.pass 1 }

/-- One millisecond on the timers of the Supervision Monitors (R68). -/
def passSupervision (x : Supervision) : Supervision :=
  { x with
    filters := ⟨x.filters.overload.pass 1, x.filters.noReaction.pass 1, x.filters.wheelOverload.pass 1, x.filters.diff.pass 1⟩
    oilRequest := x.oilRequest.pass 1, stale := x.stale.pass 1, supplyPause := x.supplyPause.pass 1 }

/-- One millisecond on the timers of the Leak Controller (R107). -/
def passLeak (l : LeakController) : LeakController :=
  { l with
    fill := l.fill.pass 1, settle := l.settle.pass 1, measure := l.measure.pass 1, request := l.request.pass 1 }

/-- The part with no command waiting: one millisecond passes. -/
def passTime (s : State) : State :=
  let s := s.withMode { s.mode with settleTimer := s.mode.settleTimer.pass 1 }
  let s := s.withCtx (s.ctx.map passContext)
  let s := s.withSup (passSupervision s.sup)
  let s := s.withNoise { s.noise with stall := s.noise.stall.pass ticksPerMs }
  let s := s.withLeak (passLeak s.leak)
  let s := s.withZero { s.zero with timer := s.zero.timer.pass 1 }
  s.withTicks (s.ticks + BitVec.ofNat 32 ticksPerMs)

end Sys2Proof.Machine
end

