-- ==== Sys2Proof/Safety.lean ====
section
/-! DEFINITION. The terms in which the statements speak: what a port is ready for, what a request answers, the changes that several
statements name, and the invariants of the part. -/

namespace Sys2Proof.Machine

/-- The port is not in a frame that a device reset has discarded (R158), so that a frame end brings its request. -/
def PortOpen (p : Port) (s : State) : Prop := (s.ports.get p).frame ≠ .discarded

/-- The pending mark of a source on a port (R166). -/
def mark (s : State) (i : Fin 11) (p : Port) : Option Event := (s.events.marks p)[i]

/-- The route of a source (R166). -/
def routeOf (s : State) (i : Fin 11) : Route := s.events.routes[i]

/-- A record in a slot is ON TEST. -/
def OnTest (s : State) (i : Fin 16) : Prop := ∃ r, recordAt s i = some r ∧ r.state = .onTest

/-- Every mark stands on a port of its source's present route (R169). -/
def MarksRouted (s : State) : Prop := ∀ i p, (mark s i p).isSome = true → (routeOf s i).has p = true

/-- At most one record is ON TEST; one is exactly while a test context exists, and that is exactly in RUN and PAUSE (R40, R54,
R148). -/
def OneTest (s : State) : Prop :=
  (∀ i j, OnTest s i → OnTest s j → i = j) ∧
    ((∃ i, OnTest s i) ↔ s.ctx.isSome = true) ∧
    (s.ctx.isSome = true ↔ s.mode.mode = .run ∨ s.mode.mode = .pause)

/-- Each filter timer runs exactly while its monitor is active, its latch is CLEAR and its condition holds on the held values
(R69). -/
def MonitorsJudged (s : State) : Prop :=
  ∀ m, (s.sup.filters.get m).isRunning = true ↔
    monitorActive s m = true ∧ latchSet s (monitorLatch m) = false ∧ (monitorFails s m).isSome = true

/-- A running dwell timer stands in the DWELL of a reversal, with all three held speeds at rest (R43, R44). -/
def DwellAtRest (s : State) : Prop :=
  ∀ c, s.ctx = some c → c.dwell.isRunning = true → c.phase = .reverse .dwell ∧ atRest s = true

/-- No two enabled patch entries have the same recipe id and target (R30). -/
def PatchesDistinct (s : State) : Prop :=
  ∀ i j : Fin 8, (s.store.patches[i]).enabled = true → (s.store.patches[j]).enabled = true →
    (s.store.patches[i]).recipe = (s.store.patches[j]).recipe →
    (s.store.patches[i]).target = (s.store.patches[j]).target → i = j

/-- SETTLE with a target complete at its entry (R13): at rest and vented. -/
def Settled (s : State) : Prop := atRest s = true ∧ vented s = true

/-- Between the two states a block has been discarded and counted (R98): the count is one higher, at most 255, the noise section of the
record ON TEST has the new count, and no record changes otherwise. -/
def CountedDiscard (s t : State) : Prop :=
  t.noise.discards = min 255 (s.noise.discards + 1) ∧ t.queue.nextSeq = s.queue.nextSeq ∧
    ∀ i, recordAt t i =
      if onTestSlot s = some i then
        (recordAt s i).map fun r => { r with noise := r.noise.map fun x => { x with discards := t.noise.discards } }
      else recordAt s i

/-- The change is posted to the leak section of the record ON TEST, where there is one (R121, R122). -/
def LeakPosted (f : LeakSection → LeakSection) (s t : State) : Prop :=
  ∀ i r l, onTestSlot s = some i → recordAt s i = some r → r.leak = some l →
    ∃ r', recordAt t i = some r' ∧ r'.leak = some (f l)

/-- Attempt `n` of the leak test begins (R110, R117): FILL, with the fill timer at FILL TIMEOUT, the request timer at 10 ms, and a single P
request, which waits for a conversion in progress and is granted at once to a converter that nothing else asks (R109, R137). -/
def AttemptBegins (c : TestContext) (n : Nat) (s t : State) : Prop :=
  t.leak.phase = .fill ∧ t.leak.attempts = n ∧ t.leak.outcome = s.leak.outcome ∧ t.leak.lastFill = none ∧
    t.leak.fill = .running (fillTimeout c.copy * 100) ∧ t.leak.request = .running 10 ∧
    LeakPosted (fun l => { l with attempts := n }) s t ∧
    (s.conv.inProgress.isSome = true → t.conv.waiting.leak = some (.single .p)) ∧
    (s.conv.inProgress = none → s.conv.owner = none → (∀ r, r ≠ .leak → s.conv.waiting.get r = none) →
      t.conv.inProgress = some ⟨.leak, .p, true⟩)

/-- The attempt is interrupted (R116): its end reason is posted, and attempt 1 leads to WAIT, attempt 2 to VENT with the outcome NOT
DECIDED. -/
def AttemptInterrupted (why : EndReason) (s t : State) : Prop :=
  t.leak.settle = .stopped ∧ t.leak.measure = .stopped ∧ t.leak.burst = none ∧ t.leak.attempts = s.leak.attempts ∧
    (s.leak.attempts = 1 → t.leak.phase = .wait ∧ t.leak.outcome = s.leak.outcome ∧
      LeakPosted (fun l => { l with endOf1 := some why }) s t) ∧
    (s.leak.attempts ≠ 1 → t.leak.phase = .vent ∧ t.leak.outcome = some .notDecided ∧
      LeakPosted (fun l => { l with endOf2 := some why, outcome := some .notDecided }) s t)

/-- A phase in which an attempt can be interrupted (R116): MEASURE, or SETTLE with its timer running. -/
def Interruptible (s : State) : Prop :=
  s.leak.phase = .measure ∨ (s.leak.phase = .settle ∧ s.leak.settle.isRunning = true)

/-- What a quiet opening does (R112, R117): it starts the stopped settle timer of SETTLE, begins attempt 2 in WAIT, and changes nothing
else. -/
def QuietOpening (c : TestContext) (s t : State) : Prop :=
  (s.leak.phase = .settle → s.leak.settle = .stopped →
    t.leak = { s.leak with settle := .running (leakSettleTime c.copy * 100) }) ∧
    (s.leak.phase = .wait → AttemptBegins c 2 s t) ∧
    (s.leak.phase ≠ .wait → ¬(s.leak.phase = .settle ∧ s.leak.settle = .stopped) → t.leak = s.leak)

/-- What a clearing of the latches does to the mode (R13, R84): a pending target whose condition then holds is reached, with its MODE
event, and nothing happens to the mode otherwise. -/
def TargetJudged (s t : State) : Prop :=
  let reached (x : Target) : Prop :=
    s.mode.target = some x ∧ Settled s ∧ (s.mode.mode = .settle ∨ (s.mode.mode = .stop ∧ x = .idle))
  ((∀ x, ¬reached x) → t.mode = s.mode) ∧
    ∀ x, reached x →
      t.mode = { s.mode with mode := x.mode, target := none, pauseKind := .none, settleTimer := .stopped } ∧
        ∀ q, (routeOf s 6).has q = true → mark t 6 q = some (.mode x.mode .reached)

/-- What a clearing of the latches does to the timers of supervision (R84): each filter timer of an active monitor whose condition holds starts
with its full filter time and every other one is stopped, and the stale timer starts with 500 ms while DRIVE ENABLE is asserted. -/
def TimersRestarted (s t : State) : Prop :=
  (∀ m, t.sup.filters.get m =
    if monitorActive s m = true ∧ (monitorFails s m).isSome = true then
      .running
        (match m with
        | .overload => 50
        | .noReaction => 200
        | .wheelOverload => 50
        | .diff => 100)
    else .stopped) ∧
    t.sup.stale = if driveEnable s then .running 500 else s.sup.stale

/-- A command that resets the part. -/
def isReset : Instr → Bool
  | .deviceReset _ => true
  | _ => false

end Sys2Proof.Machine
end

