-- ==== Sys2Proof/Certificates/Slice0/Obligations.lean ====
section
/-! DEFINITION. The statements for the provers. A frame is said by an equation of the kind t = s.withQueue t.queue: every field
of the state but the ones named is as before. The statements about an expiry hold for every remaining time of its running timer, but for the full
time of the stale timer, and of the stall timer at the tick of the last pulse: that an expiry command acts at such a time is the model's choice (log entry 2). -/

open Sys2Proof Sys2Proof.Machine

/-! ## The step, reset and guards -/

/-- One step takes the command at the front of the queue and runs it on the state with the queue's rest. The queue is the model's
(log entry 21). -/
def Obligations.StepRunsFront : Prop :=
  ∀ (c : Instr) (rest : List Instr) (s : State), step (s.withPending (c :: rest)) = exec c (s.withPending rest)

/-- What the part holds right after reset: the values of the reset columns of every block. Of them the guard inputs low (log entry 1), the
tick count 0 (log entry 3) and the model's own counter of orders, record of messages sent and queue (log entries 5 and 21) are the model's
choices. DEVICE_RESET leaves every block at its reset value with the guard inputs as sampled, in any mode; it raises no event, decides
no record, no frame is being assembled after it, and it keeps the model's own counter and queue. -/
def Obligations.ResetValues : Prop :=
  (let s := State.reset
  s.mode.mode = .idle ∧ s.mode.target = none ∧ s.mode.pauseKind = .none ∧ s.mode.settleTimer = .stopped ∧
    s.mode.guards = ⟨false, false, false, false, false, false⟩ ∧ (∀ d, s.mode.seen.get d = false) ∧
    (∀ n : Fin 12, (s.store.recipes[n]).valid = false ∧
      ∀ i : Fin 436, item (s.store.recipes[n]).items i.val = if 4 ≤ i.val ∧ i.val < 292 ∧ (i.val - 4) % 12 = 10 then 255 else 0) ∧
    (∀ n : Fin 8, s.store.patches[n] = ⟨false, 0, ⟨0, 0, 0⟩, 0⟩) ∧
    s.demand = ⟨.fwd, 0, 0, 100, none⟩ ∧ s.ctx = none ∧ s.link.cycle = 0 ∧ s.link.sent = [] ∧
    (∀ d, s.link.drives.get d = ⟨⟨.off, 0, 0, .normal⟩, false, false, 0⟩) ∧ (∀ k, latchValue s k = none) ∧
    (∀ m, s.sup.filters.get m = .stopped) ∧ s.sup.oilCount = 0 ∧ s.sup.oilRequest = .stopped ∧ s.sup.stale = .stopped ∧
    s.sup.lastOil = none ∧ s.sup.supplyPause = .stopped ∧
    s.noise.lastPulse = none ∧ s.noise.interval = none ∧ s.noise.stall = .stopped ∧ s.noise.block = none ∧
    s.noise.discards = 0 ∧
    s.leak.phase = .idle ∧ s.leak.attempts = 0 ∧ s.leak.outcome = none ∧ s.leak.fill = .stopped ∧ s.leak.settle = .stopped ∧
    s.leak.measure = .stopped ∧ s.leak.request = .stopped ∧ s.leak.burst = none ∧ s.leak.pCount = 0 ∧ s.leak.taCount = 0 ∧
    s.leak.pSum = 0 ∧ s.leak.taSum = 0 ∧ s.leak.rangeMark = false ∧ s.leak.startValues = none ∧ s.leak.lastFill = none ∧
    s.zero.reference = 0 ∧ s.zero.refValid = false ∧ s.zero.unchecked = 0 ∧ s.zero.forced = false ∧ s.zero.check = none ∧
    s.zero.timer = .stopped ∧ s.zero.count = 0 ∧ s.zero.sum = 0 ∧ s.zero.log = [] ∧
    s.zero.ventOffset = 50 ∧ s.zero.tolerance = 30 ∧ s.zero.interval = 4 ∧ s.zero.policy = .halt ∧
    (∀ r, s.conv.waiting.get r = none) ∧ s.conv.inProgress = none ∧ s.conv.owner = none ∧ s.conv.high = none ∧
    s.conv.low = none ∧ s.conv.lowDue = false ∧ s.conv.lastP = none ∧ s.conv.spotMasked = false ∧
    (∀ r, s.conv.classes.get r = if r = .spot then .low else .high) ∧
    (∀ i, recordAt s i = none) ∧ s.queue.nextSeq = 0 ∧
    (∀ p, s.ports.get p = ⟨⟨.reset, []⟩, .idle⟩) ∧ s.ports.rights = ⟨true, true, false⟩ ∧
    (List.finRange 11).map (routeOf s) =
      [.both, .both, .both, .both, .line, .line, .both, .cell, .cell, .cell, .cell] ∧
    (∀ i p, mark s i p = none) ∧ s.ticks = 0 ∧ s.orders = 0 ∧ s.pending = []) ∧
  ∀ (g : GuardLevels) (s : State), ∃ t, exec (.deviceReset g) s = .next t ∧
    t = (((State.resetWith g).withPorts t.ports).withOrders s.orders).withPending s.pending ∧
    t.mode.mode = .idle ∧ t.mode.guards = g ∧ (∀ i, recordAt t i = none) ∧ (∀ i p, mark t i p = none) ∧
    t.ports.rights = ⟨true, true, false⟩ ∧
    ∀ p, (t.ports.get p).held = ⟨.reset, []⟩ ∧ ((s.ports.get p).frame = .idle → (t.ports.get p).frame = .idle) ∧
      ∀ st r bits, (t.ports.get p).frame ≠ .assembling st r bits

/-- A guard arrival in IDLE, STOP and HALT updates the guard states, raises GUARD with all six levels exactly when ESTOP,
DOOR or the clamped condition changed, and does nothing else. -/
def Obligations.GuardChangeRecorded : Prop :=
  ∀ (i : GuardInput) (high : Bool) (s : State), s.mode.mode.active = false →
    ∃ t, exec (.guardInputChange i high) s = .next t ∧
      t = (s.withMode { s.mode with guards := setGuard s.mode.guards i high }).withEvents t.events ∧
      t.events.routes = s.events.routes ∧
      ∀ k p, mark t k p =
        if k = 1 ∧ (routeOf s 1).has p = true ∧
            (s.mode.guards.estop ≠ t.mode.guards.estop ∨ s.mode.guards.door ≠ t.mode.guards.door ∨
              clamped s.mode.guards ≠ clamped t.mode.guards)
          then some (.guard t.mode.guards) else mark s k p

/-- A guard loss while drives are enabled sets its latch, if that is CLEAR, with the value of its kind, and enters STOP: DRIVE
ENABLE off, no target, no test context, no setpoint. The leak phase becomes VENT with the request timer at 10 ms; in VENT already, LEAK's
pending request is withdrawn and the request timer runs on. -/
def Obligations.GuardLossStops : Prop :=
  ∀ (i : GuardInput) (s : State), driveEnable s = true →
    ∃ t, exec (.guardInputChange i false) s = .next t ∧
      t.mode.mode = .stop ∧ t.mode.guards = setGuard s.mode.guards i false ∧ driveEnable t = false ∧
      t.mode.target = none ∧ t.mode.pauseKind = .none ∧ t.ctx = none ∧ t.demand.speed = 0 ∧ t.demand.wheel = 0 ∧
      t.demand.ramp = none ∧
      (let kv : LatchKind × Nat :=
        match i with
        | .estop => (.estop, 0)
        | .door => (.guard, 0)
        | .clamp1 => (.clamp, 1)
        | .clamp2 => (.clamp, 2)
        | .clamp3 => (.clamp, 3)
        | .clamp4 => (.clamp, 4)
      latchValue t kv.1 = some ((latchValue s kv.1).getD kv.2) ∧
        ∀ k, k ≠ kv.1 → latchValue t k = latchValue s k) ∧
      t.leak.phase = .vent ∧ t.leak.request = (if s.leak.phase = .vent then s.leak.request else .running 10) ∧
      (s.leak.phase = .vent → t.conv.waiting.leak = none) ∧
      t.store = s.store ∧ t.link = s.link ∧ t.ports = s.ports ∧ t.pending = s.pending

/-! ## Mode timers and requests -/

/-- The expiry of a supply pause appends a SUPPLY entry with the lowest id out of range to the record ON TEST, decides it, and
enters STOP with the timer stopped. -/
def Obligations.SupplyPauseExpiryStops : Prop :=
  ∀ (s : State) (i : Fin 16) (r : Record), s.sup.supplyPause.isRunning = true → s.mode.mode = .pause →
    s.mode.pauseKind = .supply → onTestSlot s = some i → recordAt s i = some r → r.faults.length < 6 →
    ∃ t, exec .supplyPauseTimerExpiry s = .next t ∧ t.mode.mode = .stop ∧ t.mode.pauseKind = .none ∧
      t.sup.supplyPause = .stopped ∧ latchSet t .supply = true ∧ t.ctx = none ∧
      (∃ r', recordAt t i = some r' ∧ r'.state = .decided ∧
        r'.faults = r.faults ++ [⟨.latch .supply, currentStep s, supplyDrive s⟩]) ∧
      t.store = s.store ∧ t.link = s.link ∧ t.ports = s.ports ∧ t.pending = s.pending

/-- The settle timer's expiry in SETTLE and the standstill timer's in RUN or PAUSE latch NO STOP, if CLEAR, with the magnitude of the
highest held speed, and enter STOP: the first drops the target, the second ends the test context and decides the record ON
TEST. -/
def Obligations.NoStopTimers : Prop :=
  (∀ s : State, s.mode.mode = .settle → s.mode.settleTimer.isRunning = true →
    ∃ t, exec .settleTimerExpiry s = .next t ∧ t.mode.mode = .stop ∧ t.mode.target = none ∧
      t.mode.settleTimer = .stopped ∧ latchValue t .noStop = some ((latchValue s .noStop).getD (highestSpeed s)) ∧
      (∀ k, k ≠ .noStop → latchValue t k = latchValue s k) ∧
      t.store = s.store ∧ t.link = s.link ∧ t.ports = s.ports ∧ t.pending = s.pending) ∧
  ∀ (s : State) (c : TestContext), s.ctx = some c → c.standstill.isRunning = true →
    s.mode.mode = .run ∨ s.mode.mode = .pause →
    ∃ t, exec .standstillTimerExpiry s = .next t ∧ t.mode.mode = .stop ∧ t.ctx = none ∧
      latchValue t .noStop = some ((latchValue s .noStop).getD (highestSpeed s)) ∧
      (∀ i r, onTestSlot s = some i → recordAt s i = some r → ∃ r', recordAt t i = some r' ∧ r'.state = .decided) ∧
      t.demand.speed = 0 ∧ t.demand.wheel = 0 ∧ t.store = s.store ∧ t.link = s.link ∧ t.ports = s.ports ∧
      t.pending = s.pending

/-- A READY request in IDLE with guards, latches and drive answers good, and no held FAULT or bad bus state, enters READY with
DRIVE ENABLE on and the reply OK; it sets no target and raises no event where no check is in progress. -/
def Obligations.ReadyAccepted : Prop :=
  ∀ (p : Port) (s : State), PortOpen p s → s.mode.mode = .idle → guardsGood s.mode.guards = true →
    (∀ k, k.stopClass = true → latchSet s k = false) → (∀ d, (s.link.drives.get d).received = true) →
    (∀ d, (held s d).state ≠ .fault) → (∀ d, (held s d).bus = .normal) → s.zero.check = none →
    ∃ t, exec (.readyRequest p) s = .next t ∧
      t = ((((s.withMode t.mode).withSup t.sup).withConv t.conv).withPorts t.ports) ∧
      t.mode.mode = .ready ∧ t.mode.guards = s.mode.guards ∧ t.mode.target = s.mode.target ∧ driveEnable t = true ∧
      t.sup.latches = s.sup.latches ∧ t.sup.oilRequest = .running 50 ∧ t.sup.stale = .running 500 ∧
      t.ports = s.ports.set p ⟨⟨.ok, []⟩, .idle⟩

/-- READY, IDLE, PAUSE and RESUME requests that their mode refuses change nothing but the held reply, and give the code that the
rule of each names. PAUSE and RESUME from the line port without the HOLD right are refused with ACCESS and its event, in every mode. -/
def Obligations.ModeRequestsRefused : Prop :=
  ∀ (p : Port) (s : State), PortOpen p s →
    (s.mode.mode = .idle →
      (guardsGood s.mode.guards = false ∨ stopLatchSet s = true ∨ ∃ d, (s.link.drives.get d).received = false) →
      exec (.readyRequest p) s = .next (reply p ⟨.notReady, []⟩ s)) ∧
    (s.mode.mode = .halt → exec (.readyRequest p) s = .next (reply p ⟨.halted, []⟩ s)) ∧
    (s.mode.mode ≠ .idle → s.mode.mode ≠ .halt → exec (.readyRequest p) s = .next (reply p ⟨.mode, []⟩ s)) ∧
    (s.mode.mode = .idle ∨ s.mode.mode = .settle ∨ s.mode.mode = .halt →
      exec (.idleRequest p) s = .next (reply p ⟨.mode, []⟩ s)) ∧
    ((p = .line → s.ports.rights.hold = true) →
      (s.mode.mode ≠ .run → exec (.pauseRequest p) s = .next (reply p ⟨.mode, []⟩ s)) ∧
      (s.mode.mode = .halt → exec (.resumeRequest p) s = .next (reply p ⟨.halted, []⟩ s)) ∧
      (s.mode.mode ≠ .halt → ¬(s.mode.mode = .pause ∧ s.mode.pauseKind = .operator) →
        exec (.resumeRequest p) s = .next (reply p ⟨.mode, []⟩ s))) ∧
    (p = .line → s.ports.rights.hold = false →
      exec (.pauseRequest p) s = .next (reply p ⟨.access, []⟩ (raise (.access p .mode) s)) ∧
      exec (.resumeRequest p) s = .next (reply p ⟨.access, []⟩ (raise (.access p .mode) s)))

/-- An IDLE request in READY at standstill and vented enters IDLE at once, without a target, an event or a decision where no
check is in progress. In STOP it is kept: the target is IDLE, or IDLE is reached at this frame end with its MODE mark and a demand of
0 (log entry 12) when no STOP-class latch is set and the cell is at rest and vented. -/
def Obligations.IdleTakenOrKept : Prop :=
  (∀ (p : Port) (s : State), PortOpen p s → s.mode.mode = .ready → Settled s → s.zero.check = none →
    ∃ t, exec (.idleRequest p) s = .next t ∧
      t = ((((s.withMode t.mode).withSup t.sup).withConv t.conv).withPorts t.ports) ∧
      t.mode.mode = .idle ∧ t.mode.target = s.mode.target ∧ driveEnable t = false ∧
      t.sup.latches = s.sup.latches ∧ t.ports = s.ports.set p ⟨⟨.ok, []⟩, .idle⟩) ∧
  ∀ (p : Port) (s : State), PortOpen p s → s.mode.mode = .stop →
    ∃ t, exec (.idleRequest p) s = .next t ∧ (t.ports.get p).held = ⟨.ok, []⟩ ∧
      (¬(stopLatchSet s = false ∧ Settled s) →
        t = (s.withMode { s.mode with target := some .idle }).withPorts t.ports) ∧
      (stopLatchSet s = false → Settled s → t.mode.mode = .idle ∧ t.mode.target = none ∧
        t.demand = { s.demand with speed := 0, wheel := 0, ramp := none } ∧
        ∀ q, (routeOf s 6).has q = true → mark t 6 q = some (.mode .idle .reached))

/-- An IDLE request in RUN, PAUSE or READY that does not find the cell at rest and vented is degraded: SETTLE with target IDLE, the
settle timer at 10,000 ms, a MODE mark (IDLE, DEGRADED) on each port of its route, no test context, and the record ON TEST
decided with an ABORTED entry of value 3. In RUN or PAUSE with the cell at rest and vented already, SETTLE is complete at its entry: IDLE is
reached at the same frame end, without a target, with a demand of 0 (log entry 12), and with the MODE mark (IDLE, REACHED), the later of
the two in the model's order (log entry 33); the test ends in the same way. -/
def Obligations.IdleDegraded : Prop :=
  (∀ (p : Port) (s : State), PortOpen p s → s.mode.mode = .run ∨ s.mode.mode = .pause ∨ s.mode.mode = .ready →
    ¬Settled s →
    ∃ t, exec (.idleRequest p) s = .next t ∧ t.mode.mode = .settle ∧ t.mode.target = some .idle ∧
      t.mode.settleTimer = .running 10000 ∧ t.mode.pauseKind = .none ∧
      (∀ q, (routeOf s 6).has q = true → mark t 6 q = some (.mode .idle .degraded)) ∧
      (t.ports.get p).held = ⟨.ok, []⟩ ∧
      (s.mode.mode ≠ .ready → t.ctx = none ∧
        ∀ i r, onTestSlot s = some i → recordAt s i = some r → r.faults.length < 6 →
          ∃ r', recordAt t i = some r' ∧ r'.state = .decided ∧
            r'.faults = r.faults ++ [⟨.aborted, currentStep s, 3⟩]) ∧
      t.store = s.store ∧ t.link = s.link ∧ t.pending = s.pending) ∧
  ∀ (p : Port) (s : State), PortOpen p s → s.mode.mode = .run ∨ s.mode.mode = .pause → Settled s →
    ∃ t, exec (.idleRequest p) s = .next t ∧ t.mode.mode = .idle ∧ t.mode.target = none ∧ t.mode.settleTimer = .stopped ∧
      t.mode.pauseKind = .none ∧ t.ctx = none ∧ t.demand = { s.demand with speed := 0, wheel := 0, ramp := none } ∧
      (∀ q, (routeOf s 6).has q = true → mark t 6 q = some (.mode .idle .reached)) ∧
      (t.ports.get p).held = ⟨.ok, []⟩ ∧
      (∀ i r, onTestSlot s = some i → recordAt s i = some r → r.faults.length < 6 →
        ∃ r', recordAt t i = some r' ∧ r'.state = .decided ∧
          r'.faults = r.faults ++ [⟨.aborted, currentStep s, 3⟩]) ∧
      t.store = s.store ∧ t.link = s.link ∧ t.pending = s.pending

/-- A PAUSE request in RUN enters PAUSE with kind OPERATOR; outside FINISH the setpoint ramps from its present value to 0 over
2,000 ms, the wheel torque setpoint is 0 and a running step timer is frozen. A leak attempt in MEASURE, or in SETTLE with its timer running, is
interrupted with the end reason PAUSE; otherwise the Leak Controller stays as it is. -/
def Obligations.PauseEntered : Prop :=
  ∀ (p : Port) (s : State) (c : TestContext), PortOpen p s → mayHold p s = true → s.mode.mode = .run → s.ctx = some c →
    c.phase.isFinish = false →
    ∃ t, exec (.pauseRequest p) s = .next t ∧ t.mode.mode = .pause ∧ t.mode.pauseKind = .operator ∧
      t.demand = { s.demand with ramp := some ⟨s.demand.speed, 0, 2000, 0⟩, wheel := 0 } ∧
      t.ctx = some { c with stepTimer := c.stepTimer.freeze } ∧ (t.ports.get p).held = ⟨.ok, []⟩ ∧
      (Interruptible s → AttemptInterrupted .pause s t) ∧ (¬Interruptible s → t.leak = s.leak) ∧
      t.noise.block = none ∧ t.sup.latches = s.sup.latches ∧ t.store = s.store ∧ t.link = s.link ∧
      t.events.routes = s.events.routes ∧ t.pending = s.pending

/-- A RESUME request in an operator pause, with all bus states NORMAL and the phase RAMP or HOLD in a step of RAMP TIME above 0,
returns to RUN with the resume ramp: from the present setpoint to the step's INPUT SPEED, the wheel torque of the step's flank,
and the step timer as it was frozen. In a leak-quiet step it is a quiet opening for the leak attempt (log entry 25); in any other the Leak
Controller stays as it is. -/
def Obligations.ResumeEntered : Prop :=
  ∀ (p : Port) (s : State) (c : TestContext), PortOpen p s → mayHold p s = true → s.mode.mode = .pause →
    s.mode.pauseKind = .operator → s.ctx = some c → c.phase.moving = true → rampTime c.copy c.step ≠ 0 →
    supplyBad s = false →
    ∃ t, exec (.resumeRequest p) s = .next t ∧ t.mode.mode = .run ∧ t.mode.pauseKind = .none ∧
      t.ctx = some { c with phase := .ramp, resumeRamp := true } ∧
      t.demand =
        { s.demand with
          ramp := some ⟨s.demand.speed, inputSpeed c.copy c.step, rampTime c.copy c.step, 0⟩
          wheel := if stepFlank c.copy c.step = .drive then -(wheelTorque c.copy c.step : Int)
            else (wheelTorque c.copy c.step : Int) } ∧
      (leakQuiet c.copy c.step = true → QuietOpening c s t) ∧ (leakQuiet c.copy c.step = false → t.leak = s.leak) ∧
      (t.ports.get p).held = ⟨.ok, []⟩ ∧ t.sup.latches = s.sup.latches ∧ t.store = s.store ∧ t.link = s.link ∧
      t.pending = s.pending

/-! ## Drive link -/

/-- A cycle start updates the ramp by 2 ms, takes 2 ms from a running step timer and sends three messages of 8 bytes in id order
with the present cycle count, each with a right check; only the demand, the step timer and the messages sent change. What a ramp's end
starts is DEMAND_RAMP_END's to report (log entry 13). -/
def Obligations.CycleStartSends : Prop :=
  ∀ s : State, ∃ t, exec .cycleStart s = .next t ∧
    t = (((s.withDemand t.demand).withCtx t.ctx).withLink { s.link with sent := t.link.sent }) ∧
    t.demand.direction = s.demand.direction ∧ t.demand.wheel = s.demand.wheel ∧ t.demand.limit = s.demand.limit ∧
    (s.demand.ramp = none → t.demand = s.demand) ∧
    (∀ r, s.demand.ramp = some r → r.start ≠ r.target → r.elapsed + 2 < r.length →
      t.demand.ramp = some { r with elapsed := r.elapsed + 2 } ∧
      (r.start ≤ r.target → t.demand.speed = r.start + (r.target - r.start) * (r.elapsed + 2) / r.length) ∧
      (r.target ≤ r.start → t.demand.speed = r.start - (r.start - r.target) * (r.elapsed + 2) / r.length)) ∧
    (∀ r, s.demand.ramp = some r → r.length ≤ r.elapsed + 2 → t.demand.speed = r.target) ∧
    t.ctx = s.ctx.map (fun c => { c with stepTimer := c.stepTimer.cycle }) ∧
    ∃ x y z, t.link.sent = [x, y, z] ∧
      (∀ m ∈ t.link.sent, m.length = 8 ∧ checkRight m = true ∧ m[1]? = some s.link.cycle) ∧
      x[0]? = some 0 ∧ y[0]? = some 1 ∧ z[0]? = some 2 ∧
      (x.drop 3).take 4 = be16 t.demand.speed ++ be16 t.demand.limit ∧
      (y.drop 3).take 4 = beInt16 t.demand.wheel ++ be16 30000 ∧ (z.drop 3).take 4 = (y.drop 3).take 4 ∧
      ∀ m ∈ t.link.sent, ∀ f, m[2]? = some f →
        (f.getLsbD 0 = driveEnable s ∧ (f.getLsbD 1 = true ↔ s.demand.direction = .rev))

/-- The end of a demand ramp sets the setpoint to its target. With no test context nothing else happens. In RUN in RAMP the phase becomes
HOLD, with an UNLOADED step timer loaded with a HOLD TIME above 0, and a loaded one running on. In RAMP DOWN of REVERSE the standstill timer
starts with 5,000 ms in STANDSTILL WAIT, and with the held speeds at rest DWELL begins at once. In RAMP DOWN of FINISH STANDSTILL WAIT
begins in the same way; with the held speeds at rest the path goes on at once: to VENT WAIT with a leak section whose VENT is not done, and
else to ZERO WAIT. That holds its request in PAUSE; in RUN it starts an END OF TEST check where one is due by the unchecked count or the
forced flag, and else the record is decided and the mode becomes READY. -/
def Obligations.RampEndReported : Prop :=
  ∀ (s : State) (r : Ramp), s.demand.ramp = some r →
    (let ended : State := s.withDemand { s.demand with speed := r.target, ramp := none }
    (s.ctx = none → exec .demandRampEnd s = .next ended) ∧
    ∀ c, s.ctx = some c →
      (c.phase = .ramp → s.mode.mode = .run → ∀ left,
        (c.stepTimer = .unloaded ∧ holdTime c.copy c.step ≠ 0 ∧ left = holdTime c.copy c.step * 100) ∨
          c.stepTimer = .running left ∨ c.stepTimer = .frozen left →
        ∃ t, exec .demandRampEnd s = .next t ∧
          t = ((ended.withCtx (some { c with phase := .hold, stepTimer := .running left })).withSup t.sup) ∧
          t.sup.latches = s.sup.latches) ∧
      (c.phase = .reverse .rampDown →
        exec .demandRampEnd s =
          .next (ended.withCtx (some
            (if atRest s then { c with phase := .reverse .dwell, dwell := .running 300, standstill := .held 5000 }
            else { c with phase := .reverse .standstillWait, standstill := .running 5000 })))) ∧
      (c.phase = .finish .rampDown →
        (let stage (x : FinishStage) (hold : Bool) : State :=
          ended.withCtx (some { c with phase := .finish x, standstill := .stopped, requestHeld := hold })
        let zeroNext : Prop := leakEnabled c.copy = false ∨ s.leak.phase = .done
        (atRest s = false →
          exec .demandRampEnd s =
            .next (ended.withCtx (some { c with phase := .finish .standstillWait, standstill := .running 5000 }))) ∧
        (atRest s = true → ¬zeroNext → exec .demandRampEnd s = .next (stage .ventWait false)) ∧
        (atRest s = true → zeroNext → s.mode.mode ≠ .run → exec .demandRampEnd s = .next (stage .zeroWait true)) ∧
        ∀ i x, atRest s = true → zeroNext → s.mode.mode = .run → onTestSlot s = some i → recordAt s i = some x →
          (let due : Prop := x.leak.isSome = true ∧ (s.zero.interval ≤ s.zero.unchecked + 1 ∨ s.zero.forced = true)
          (due →
            exec .demandRampEnd s =
              .next ((stage .zeroWait false).withZero
                { s.zero with check := some ⟨.endOfTest, .settle⟩, timer := .running 2000 })) ∧
          (¬due →
            ∃ t, exec .demandRampEnd s = .next t ∧ t.mode.mode = .ready ∧ t.mode.target = s.mode.target ∧ t.ctx = none ∧
              recordAt t i = some (decided (some c) x) ∧ (∀ j, j ≠ i → recordAt t j = recordAt s j) ∧
              t.zero.unchecked = (if x.zero = some .unchecked then min 255 (s.zero.unchecked + 1) else s.zero.unchecked) ∧
              t.leak = s.leak ∧ t.store = s.store ∧ t.link = s.link ∧ t.ports = s.ports ∧ t.pending = s.pending)))))

/-- A cycle end counts a miss for each drive without a good message, clears the marks of the others and advances the count; it
does nothing else unless a counter then stands at 3 or more, when LINK LOSS is latched, if CLEAR, with the lowest such id. -/
def Obligations.CycleEndCounts : Prop :=
  ∀ s : State, ∃ t, exec .cycleEnd s = .next t ∧ t.link.cycle = s.link.cycle + 1 ∧
    (∀ d, (s.link.drives.get d).good = true →
      t.link.drives.get d = { s.link.drives.get d with good := false }) ∧
    (∀ d, (s.link.drives.get d).good = false →
      t.link.drives.get d = { s.link.drives.get d with misses := min 255 ((s.link.drives.get d).misses + 1) }) ∧
    ((∀ d, (t.link.drives.get d).misses < 3) → t = s.withLink t.link) ∧
    (∀ d, 3 ≤ (t.link.drives.get d).misses →
      (∀ e, driveNumber e < driveNumber d → (t.link.drives.get e).misses < 3) →
      latchValue t .linkLoss = some ((latchValue s .linkLoss).getD (driveNumber d)) ∧
      (s.mode.mode.active = true → t.mode.mode = .stop) ∧
      (s.mode.mode.active = false → t.mode.mode = s.mode.mode ∧ t.ctx = s.ctx)) ∧
    t.store = s.store ∧ t.ports = s.ports ∧ t.pending = s.pending

/-- A status message of another length, with a wrong check, a drive id above 2, a stale count, a state code above 3, a bus code above 2, or
a speed or a torque out of range is discarded: nothing changes. A
good one replaces its drive's held status, sets the received and good marks, and resets the miss counter; the other drives' lines,
the cycle count and the messages sent stay, whatever the other blocks do with it. A speed of at most 10 rpm sets its drive's post-reset
standstill mark, and no other mark changes. In a reversal, with no fault and no bus state out of range, STANDSTILL WAIT becomes DWELL of
300 ms with the standstill timer held when all three speeds are at rest, and a DWELL in which one is not goes back with that timer running
on. A reported FAULT with DRIVE ENABLE asserted latches DRIVE FAULT, if CLEAR, with the drive's id and enters STOP. A bus state out of range
with DRIVE ENABLE asserted latches SUPPLY, if CLEAR, with the lowest such id; from RUN it enters a supply pause with its timer at 10,000 ms,
and a pause that stands already, or READY, stays as it is. With all bus states NORMAL again a supply pause ends: RUN, with the resume ramp
in RAMP or HOLD of a step of RAMP TIME above 0, and the latches as they were. The outcome is the same whichever side is first at the
acceptance (log entry 4) and whichever of DRIVE FAULT and SUPPLY is (log entry 5). -/
def Obligations.StatusJudged : Prop :=
  (∀ (bytes : List Byte) (order : Bool) (s : State),
    bytes.length ≠ 9 ∨ checkRight bytes = false ∨ (∃ b, bytes[0]? = some b ∧ 2 < b.toNat) ∨
      (∃ b, bytes[1]? = some b ∧ b ≠ s.link.cycle) ∨ (∃ b, bytes[2]? = some b ∧ 3 < b.toNat) ∨
      (∃ b, bytes[3]? = some b ∧ 2 < b.toNat) ∨
      (∃ x y, bytes[4]? = some x ∧ bytes[5]? = some y ∧ ((x ++ y).toInt < -5000 ∨ 5000 < (x ++ y).toInt)) ∨
      (∃ x y, bytes[6]? = some x ∧ bytes[7]? = some y ∧ (x ++ y).toInt < -32767) →
    exec (.statusMessage bytes order) s = .next s) ∧
  ∀ (d : DriveId) (st bus : Nat) (speed torque : Int) (order : Bool) (s : State), st ≤ 3 → bus ≤ 2 →
    -5000 ≤ speed → speed ≤ 5000 → -32767 ≤ torque → torque ≤ 32767 →
    (let rest : Prop := ∀ e, (if e = d then speed else (held s e).speed).natAbs ≤ 10
    let bad (e : DriveId) : Prop := if e = d then bus ≠ 0 else (held s e).bus ≠ .normal
    let finishing : Prop := ∃ c, s.ctx = some c ∧ c.phase = .finish .standstillWait
    ∃ t x y, exec (.statusMessage (formStatus d s.link.cycle st bus speed torque) order) s = .next t ∧
      driveStateOfCode st = some x ∧ busStateOfCode bus = some y ∧
      t.link = { s.link with drives := s.link.drives.set d ⟨⟨x, speed, torque, y⟩, true, true, 0⟩ } ∧
      t.store = s.store ∧ t.ports = s.ports ∧ t.pending = s.pending ∧
      (∀ e, t.mode.seen.get e = true ↔ s.mode.seen.get e = true ∨ (e = d ∧ speed.natAbs ≤ 10)) ∧
      -- a reversal (R43)
      (∀ c, s.ctx = some c → s.mode.mode = .run ∨ (s.mode.mode = .pause ∧ s.mode.pauseKind = .operator) → st ≠ 3 →
        (∀ e, ¬bad e) →
        (c.phase = .reverse .standstillWait →
          (¬rest → t.ctx = some c) ∧
          (rest → ∀ left, c.standstill = .running left →
            t.ctx = some { c with phase := .reverse .dwell, dwell := .running 300, standstill := .held left })) ∧
        (c.phase = .reverse .dwell →
          (rest → t.ctx = some c) ∧
          (¬rest → ∀ left, c.standstill = .held left →
            t.ctx =
              some { c with phase := .reverse .standstillWait, dwell := .stopped, standstill := .running left }))) ∧
      -- DRIVE FAULT (R75)
      (st = 3 → driveEnable s = true → s.mode.mode ≠ .settle → ¬finishing → latchSet s .driveFault = false →
        (s.mode.pauseKind = .supply → ∃ e, bad e) →
        latchValue t .driveFault = some (driveNumber d) ∧ t.mode.mode = .stop ∧ t.ctx = none) ∧
      -- SUPPLY and the supply pause (R79, R80)
      (st ≠ 3 → driveEnable s = true → s.mode.mode ≠ .settle → ¬finishing → ∀ v, bad v →
        (∀ e, driveNumber e < driveNumber v → ¬bad e) →
        latchValue t .supply = some ((latchValue s .supply).getD (driveNumber v)) ∧
          (∀ k, k ≠ .supply → latchValue t k = latchValue s k) ∧
          (s.mode.mode = .run → t.mode.mode = .pause ∧ t.mode.pauseKind = .supply ∧ t.sup.supplyPause = .running 10000) ∧
          (s.mode.mode ≠ .run → t.mode.mode = s.mode.mode ∧ t.mode.pauseKind = s.mode.pauseKind ∧
            t.sup.supplyPause = s.sup.supplyPause)) ∧
      -- the supply recovery (R81)
      ∀ c, s.ctx = some c → s.mode.mode = .pause → s.mode.pauseKind = .supply → st ≠ 3 → (∀ e, ¬bad e) →
        c.phase.moving = true → rampTime c.copy c.step ≠ 0 →
        t.mode.mode = .run ∧ t.mode.pauseKind = .none ∧ t.sup.supplyPause = .stopped ∧ t.sup.latches = s.sup.latches ∧
          t.ctx = some { c with phase := .ramp, resumeRamp := true } ∧
          t.demand =
            { s.demand with
              ramp := some ⟨s.demand.speed, inputSpeed c.copy c.step, rampTime c.copy c.step, 0⟩
              wheel := if stepFlank c.copy c.step = .drive then -(wheelTorque c.copy c.step : Int)
                else (wheelTorque c.copy c.step : Int) })

/-! ## The test context -/

/-- The dwell timer's expiry in RUN, in a step of RAMP TIME above 0, sets the demand direction to the step's, stops the dwell and
standstill timers and enters RAMP from the present setpoint with the torque of the step's flank. A run time tick adds 0.1 s to the run
time of the record ON TEST, up to 65,535, and changes nothing else. -/
def Obligations.DwellAndRunTime : Prop :=
  (∀ (s : State) (c : TestContext), s.ctx = some c → c.dwell.isRunning = true → s.mode.mode = .run →
    rampTime c.copy c.step ≠ 0 →
    ∃ t, exec .dwellTimerExpiry s = .next t ∧
      t = (((s.withCtx (some { c with phase := .ramp, dwell := .stopped, standstill := .stopped })).withDemand
        { direction := stepDirection c.copy c.step, speed := s.demand.speed, limit := s.demand.limit
          wheel := if stepFlank c.copy c.step = .drive then -(wheelTorque c.copy c.step : Int)
            else (wheelTorque c.copy c.step : Int)
          ramp := some ⟨s.demand.speed, inputSpeed c.copy c.step, rampTime c.copy c.step, 0⟩ }).withSup t.sup) ∧
      t.sup.latches = s.sup.latches) ∧
  ∀ (s : State) (i : Fin 16) (r : Record) (x : RunInSection), s.ctx.isSome = true → onTestSlot s = some i →
    recordAt s i = some r → r.runIn = some x →
    ∃ t, exec .runTimeTick s = .next t ∧ t = s.withQueue t.queue ∧ t.queue.nextSeq = s.queue.nextSeq ∧
      recordAt t i = some { r with runIn := some { x with runTime := min 65535 (x.runTime + 1) } } ∧
      ∀ j, j ≠ i → recordAt t j = recordAt s j

/-- The step timer's expiry in HOLD in RUN completes the step. With a loop target and the loop counter below LOOP COUNT the
counter goes up and the target step starts; else a step with a loop target sets it to 0 and the next step starts, or FINISH
after the last. A step that starts, of RAMP TIME above 0, is in RAMP where its direction is the demand's, and in RAMP with the direction turned
where the setpoint is 0 and the held speeds are at rest; with a setpoint of 0 and a speed above 10 rpm it is in REVERSE in STANDSTILL
WAIT with the standstill timer at 5,000 ms, and with a setpoint above 0 in REVERSE in RAMP DOWN over its RAMP TIME, the wheel torque
setpoint 0. For the Leak Controller in IDLE the first start of TRIGGER STEP begins attempt 1; in another phase the start of a leak-quiet step is
a quiet opening, and that of any other interrupts the attempt in MEASURE or in SETTLE with its timer running. At FINISH the phases FILL, SETTLE,
MEASURE and WAIT become VENT with the outcome NOT DECIDED and the attempt's end reason FINISH. That the step timer is UNLOADED in FINISH is
the model's reading (log entry 22). -/
def Obligations.StepExpiryMovesOn : Prop :=
  ∀ (s : State) (c : TestContext), s.ctx = some c → c.phase = .hold → c.stepTimer.isRunning = true →
    s.mode.mode = .run →
    (let looping : Prop := loopTarget c.copy c.step ≠ 255 ∧ c.loop < loopCount c.copy c.step
    let left : Nat := if loopTarget c.copy c.step ≠ 255 then 0 else c.loop
    let completed (f : RunInSection → RunInSection) (t : State) : Prop :=
      ∀ i r x, onTestSlot s = some i → recordAt s i = some r → r.runIn = some x →
        ∃ r', recordAt t i = some r' ∧ r'.runIn = some (f { x with stepsCompleted := min 255 (x.stepsCompleted + 1) })
    (∀ k loop, (looping ∧ k = loopTarget c.copy c.step ∧ loop = c.loop + 1) ∨
        (¬looping ∧ c.step + 1 < stepCount c.copy ∧ k = c.step + 1 ∧ loop = left) →
      rampTime c.copy k ≠ 0 →
      (let first : Prop := c.started[k]?.getD false = false
      let same : Prop := stepDirection c.copy k = s.demand.direction
      let started (x : Phase) : TestContext :=
        { c with
          step := k, phase := x, loop := loop, stepTimer := .unloaded, resumeRamp := false
          started := c.started.setIfInBounds k true }
      let driven : Demand :=
        { s.demand with
          direction := stepDirection c.copy k
          wheel := if stepFlank c.copy k = .drive then -(wheelTorque c.copy k : Int) else (wheelTorque c.copy k : Int)
          ramp := some ⟨s.demand.speed, inputSpeed c.copy k, rampTime c.copy k, 0⟩ }
      let triggers : Prop := leakEnabled c.copy = true ∧ first ∧ k = triggerStep c.copy
      ∃ t, exec .stepTimerExpiry s = .next t ∧
        (same ∨ (s.demand.speed = 0 ∧ atRest s = true) → t.ctx = some (started .ramp) ∧ t.demand = driven) ∧
        (¬same → s.demand.speed = 0 → atRest s = false →
          t.ctx = some { started (.reverse .standstillWait) with standstill := .running 5000 } ∧
          t.demand = { s.demand with wheel := 0 }) ∧
        (¬same → s.demand.speed ≠ 0 →
          t.ctx = some (started (.reverse .rampDown)) ∧
          t.demand = { s.demand with wheel := 0, ramp := some ⟨s.demand.speed, 0, rampTime c.copy k, 0⟩ }) ∧
        (s.leak.phase = .idle → (triggers → AttemptBegins c 1 s t) ∧ (¬triggers → t.leak = s.leak)) ∧
        (s.leak.phase ≠ .idle → leakQuiet c.copy k = true → QuietOpening c s t) ∧
        (s.leak.phase ≠ .idle → leakQuiet c.copy k = false →
          (Interruptible s → AttemptInterrupted .step s t) ∧ (¬Interruptible s → t.leak = s.leak)) ∧
        completed (fun x => { x with lastStep := k }) t ∧
        t.mode = s.mode ∧ t.noise.block = none ∧ t.sup.latches = s.sup.latches ∧ t.store = s.store ∧ t.link = s.link ∧
        t.ports = s.ports ∧ t.events = s.events ∧ t.pending = s.pending)) ∧
    (¬looping → ¬c.step + 1 < stepCount c.copy →
      ∃ t, exec .stepTimerExpiry s = .next t ∧
        t.ctx = some { c with phase := .finish .rampDown, loop := left, stepTimer := .unloaded } ∧
        t.demand = { s.demand with ramp := some ⟨s.demand.speed, 0, 2000, 0⟩, wheel := 0 } ∧
        (let x := s.leak.phase
        (x = .fill ∨ x = .settle ∨ x = .measure ∨ x = .wait →
          t.leak.phase = .vent ∧ t.leak.outcome = some .notDecided ∧ t.leak.fill = .stopped ∧ t.leak.settle = .stopped ∧
          t.leak.measure = .stopped ∧ t.leak.burst = none ∧ t.leak.request = .running 10 ∧
          t.leak.attempts = s.leak.attempts ∧
          LeakPosted (fun l =>
            if s.leak.attempts = 1 then { l with outcome := some .notDecided, endOf1 := some .finish }
            else { l with outcome := some .notDecided, endOf2 := some .finish }) s t) ∧
        (x = .idle ∨ x = .vent ∨ x = .done → t.leak = s.leak)) ∧
        completed id t ∧ t.mode = s.mode ∧ t.noise.block = none ∧ t.sup.latches = s.sup.latches ∧ t.store = s.store ∧
        t.link = s.link ∧ t.ports = s.ports ∧ t.events = s.events ∧ t.pending = s.pending))

/-! ## Supervision -/

/-- The expiry of a running filter timer sets its monitor's latch with the value that the held statuses give, raises a FAULT mark with it, makes
the verdict of the record ON TEST FAIL, and enters STOP. The stale timer's expiry latches TEMP STALE with the last oil reading, or 0 with
none, leaves the timer stopped, and enters STOP; where a reading that arrived with it was taken first, the timer stands at its full time,
and the expiry does nothing. The four
monitors are active, and their conditions hold with their values, by the numbers of their rules; a judgement starts a stopped timer
with the full filter time of an active monitor that is CLEAR and whose condition holds, lets a running one run on, and stops every
other. -/
def Obligations.ExpiriesLatch : Prop :=
  (∀ (m : FilteredMonitor) (v : Nat) (s : State), (s.sup.filters.get m).isRunning = true →
    latchSet s (monitorLatch m) = false → monitorFails s m = some v → s.mode.mode.active = true →
    ∃ t, exec (.filterTimerExpiry m) s = .next t ∧ latchValue t (monitorLatch m) = some v ∧
      (∀ k, k ≠ monitorLatch m → latchValue t k = latchValue s k) ∧ t.mode.mode = .stop ∧ t.mode.target = none ∧
      (∀ q, (routeOf s 2).has q = true → mark t 2 q = some (.fault (monitorLatch m) v)) ∧
      (∀ i r, onTestSlot s = some i → recordAt s i = some r → r.faults.length < 6 →
        ∃ r', recordAt t i = some r' ∧ r'.faults = r.faults ++ [⟨.latch (monitorLatch m), currentStep s, v⟩] ∧
          r'.verdict = some .fail) ∧
      t.store = s.store ∧ t.link = s.link ∧ t.ports = s.ports ∧ t.pending = s.pending) ∧
  (∀ (s : State) (n : Nat), s.sup.stale = .running n → n < 500 → latchSet s .tempStale = false →
    s.mode.mode.active = true →
    ∃ t, exec .staleTimerExpiry s = .next t ∧ latchValue t .tempStale = some (s.sup.lastOil.getD 0) ∧
      (∀ k, k ≠ .tempStale → latchValue t k = latchValue s k) ∧ t.sup.stale = .stopped ∧ t.mode.mode = .stop ∧
      t.sup.lastOil = s.sup.lastOil ∧ t.store = s.store ∧ t.link = s.link ∧ t.ports = s.ports ∧ t.pending = s.pending) ∧
  (∀ s : State, s.sup.stale = .running 500 → exec .staleTimerExpiry s = .next s) ∧
  ∀ s : State,
    (let torque (d : DriveId) : Nat := (held s d).torque.natAbs
    let apart : Nat := ((held s .left).speed - (held s .right).speed).natAbs
    let wheel (bad : Nat → Prop) (v : Nat) : Prop :=
      (bad (torque .left) ∧ v = torque .left) ∨ (¬bad (torque .left) ∧ bad (torque .right) ∧ v = torque .right)
    (monitorActive s .overload = driveEnable s ∧ monitorActive s .wheelOverload = driveEnable s ∧
      (monitorActive s .noReaction = true ↔ driveEnable s = true ∧ s.mode.mode = .run ∧
        ∃ c, s.ctx = some c ∧ c.phase = .hold ∧ 500 ≤ wheelTorque c.copy c.step) ∧
      (monitorActive s .diff = true ↔ driveEnable s = true ∧ (s.mode.mode = .run ∨ s.mode.mode = .pause) ∧
        ∃ c, s.ctx = some c ∧ diffLock c.copy c.step = true)) ∧
    (∀ v, monitorFails s .overload = some v ↔ s.demand.limit < torque .input ∧ v = torque .input) ∧
    (∀ c v, s.ctx = some c →
      (monitorFails s .noReaction = some v ↔
        wheel (fun x => x * 100 < wheelTorque c.copy c.step * (100 - torqueBand c.copy c.step)) v)) ∧
    (∀ c v, s.ctx = some c → s.mode.mode = .run → c.phase = .ramp ∨ c.phase = .hold →
      (monitorFails s .wheelOverload = some v ↔
        wheel (fun x => wheelTorque c.copy c.step * (100 + torqueBand c.copy c.step) + 20000 < x * 100) v)) ∧
    (∀ v, (∀ c, s.ctx = some c → s.mode.mode = .run → c.phase ≠ .ramp ∧ c.phase ≠ .hold) →
      (monitorFails s .wheelOverload = some v ↔ wheel (fun x => 200 < x) v)) ∧
    (∀ v, monitorFails s .diff = some v ↔ 5 < apart ∧ v = apart) ∧
    judgeMonitors s = s.withSup { s.sup with filters := (judgeMonitors s).sup.filters } ∧
    ∀ m, (judgeMonitors s).sup.filters.get m =
      if monitorActive s m = true ∧ latchSet s (monitorLatch m) = false ∧ (monitorFails s m).isSome = true then
        if (s.sup.filters.get m).isRunning = true then s.sup.filters.get m
        else .running
          (match m with
            | .overload => 50
            | .noReaction => 200
            | .wheelOverload => 50
            | .diff => 100)
      else .stopped)

/-- A request to set a latch that is SET already is no latching: outside READY, RUN, PAUSE and SETTLE it changes nothing. -/
def Obligations.SetLatchKeepsValue : Prop :=
  (∀ (k : LatchKind) (v : Nat) (s : State), latchSet s k = true →
    (s.mode.mode.active = false ∨ k.stopClass = false) → latch k v s = s) ∧
  ∀ (k : LatchKind) (v : Nat) (s : State), latchSet s k = true → (latch k v s).sup.latches = s.sup.latches

/-- The oil request timer's expiry restarts it with 50 ms and the leak request timer's in FILL or VENT with 10 ms; each asks for one
conversion unless the previous request is still pending, which then stands. -/
def Obligations.RequestTimersAsk : Prop :=
  ∀ s : State,
    (s.sup.oilRequest.isRunning = true →
      exec .oilRequestTimerExpiry s =
        .next ((if s.conv.waiting.oil.isSome then s else s.withConv (s.conv.request .oil (.single .to))).withSup
          { s.sup with oilRequest := .running 50 })) ∧
    (s.leak.request.isRunning = true → s.leak.phase = .fill ∨ s.leak.phase = .vent →
      exec .leakRequestTimerExpiry s =
        .next ((if s.conv.waiting.leak.isSome then s else s.withConv (s.conv.request .leak (.single .p))).withLeak
          { s.leak with request := .running 10 }))

/-- FAULT READ returns three bytes for each latch in kind order, its state and its value, and changes nothing else. CLEAR FAULTS and
FAULT READ AND CLEAR, inside the port's rights, leave every latch CLEAR at their frame end, and the second returns the latches as they
stood. The mode changes only by a pending target that is reached at the clearing, with its MODE (REACHED) mark: of SETTLE, and of STOP when
it is IDLE, with the cell at rest and vented. The demand is then 0 (log entry 12), and else as it was. Where the mode stays, each active
filtered monitor whose condition holds starts its filter timer with the full filter time, one that runs already too (log entry 26), every
other filter timer is stopped, and the stale timer starts with 500 ms while DRIVE ENABLE is on. -/
def Obligations.LatchesReadAndCleared : Prop :=
  (∀ (p : Port) (s : State), PortOpen p s →
    ∃ bytes, exec (.faultRead p) s = .next (reply p ⟨.ok, bytes⟩ s) ∧ bytes.length = 45 ∧
      ∀ k, (bytes.drop (3 * (k.code - 1))).take 3 =
        match latchValue s k with
        | some v => 1 :: be16 v
        | none => [0, 0, 0]) ∧
  ∀ (p : Port) (s : State), PortOpen p s → (p = .line → s.ports.rights.clear = true) →
    (∃ t, exec (.clearFaults p) s = .next t ∧ (∀ k, latchValue t k = none) ∧ t.sup.oilCount = 0 ∧
      (t.ports.get p).held = ⟨.ok, []⟩ ∧ t.queue = s.queue ∧ t.ctx = s.ctx ∧ t.store = s.store ∧
      TargetJudged s t ∧ (t.mode.mode = s.mode.mode → t.demand = s.demand ∧ TimersRestarted s t) ∧
      (t.mode.mode ≠ s.mode.mode → t.demand = { s.demand with speed := 0, wheel := 0, ramp := none }) ∧
      t.link = s.link ∧ t.leak = s.leak ∧ t.pending = s.pending) ∧
    ∃ t, exec (.faultReadAndClear p) s = .next t ∧ (∀ k, latchValue t k = none) ∧ t.sup.oilCount = 0 ∧
      exec (.faultRead p) s = .next (reply p (t.ports.get p).held s) ∧ t.queue = s.queue ∧ t.ctx = s.ctx ∧
      TargetJudged s t ∧ (t.mode.mode = s.mode.mode → t.demand = s.demand ∧ TimersRestarted s t) ∧
      (t.mode.mode ≠ s.mode.mode → t.demand = { s.demand with speed := 0, wheel := 0, ramp := none }) ∧
      t.store = s.store ∧ t.link = s.link ∧ t.leak = s.leak ∧ t.pending = s.pending

/-- CELL CLEAR from the cell port, in any mode: no latch, no test context, no check; IDLE when the cell is at rest and vented, else
STOP with target IDLE. A record ON TEST is decided with a CELL CLEAR entry of value 0; recipes, patches, link, sequence counter, the
reference, the integrity log and every setting (vent offset, tolerance, K, policy, classes, SPOT mask, line rights, routes) are kept. -/
def Obligations.CellClearStops : Prop :=
  ∀ s : State, PortOpen .cell s →
    ∃ t, exec (.cellClear .cell) s = .next t ∧ (∀ k, latchValue t k = none) ∧ t.ctx = none ∧ t.zero.check = none ∧
      (Settled s → t.mode.mode = .idle ∧ t.mode.target = none ∧
        ∀ q, (routeOf s 6).has q = true → mark t 6 q = some (.mode .idle .reached)) ∧
      (¬Settled s → t.mode.mode = .stop ∧ t.mode.target = some .idle) ∧
      (∀ i r, onTestSlot s = some i → recordAt s i = some r → r.faults.length < 6 →
        ∃ r', recordAt t i = some r' ∧ r'.state = .decided ∧
          r'.faults = r.faults ++ [⟨.cellClear, currentStep s, 0⟩]) ∧
      t.ports = s.ports.set .cell ⟨⟨.ok, []⟩, .idle⟩ ∧ t.mode.guards = s.mode.guards ∧ t.mode.seen = s.mode.seen ∧
      t.store = s.store ∧ t.link = s.link ∧ t.queue.nextSeq = s.queue.nextSeq ∧ t.zero.reference = s.zero.reference ∧
      t.zero.refValid = s.zero.refValid ∧ t.zero.log = s.zero.log ∧ t.zero.forced = s.zero.forced ∧
      t.zero.ventOffset = s.zero.ventOffset ∧ t.zero.tolerance = s.zero.tolerance ∧ t.zero.interval = s.zero.interval ∧
      t.zero.policy = s.zero.policy ∧ t.conv.classes = s.conv.classes ∧ t.conv.spotMasked = s.conv.spotMasked ∧
      t.events.routes = s.events.routes ∧ t.pending = s.pending

/-! ## Order analysis -/

/-- A pulse becomes the last pulse and restarts the stall timer; T becomes the ticks since the last pulse of the same direction, at least
1, and is UNKNOWN otherwise; with no open block and no licence nothing else changes. A stall expiry forgets the last pulse and T; an
open block is abandoned and counted, and nothing happens otherwise. Where a pulse at the same tick was taken first, the timer stands at its
full time and the tick count at that pulse's stamp, and the expiry does nothing. -/
def Obligations.TrackerFollows : Prop :=
  (∀ (stamp : Stamp) (d : Direction) (s : State),
    ∃ t, exec (.encoderPulse stamp d) s = .next t ∧ t = ((s.withNoise t.noise).withQueue t.queue).withTicks stamp ∧
      t.noise.lastPulse = some ⟨stamp, d⟩ ∧ t.noise.stall = .running 200000 ∧
      t.noise.interval =
        (match s.noise.lastPulse with
        | some q => if q.direction = d then some (max 1 (stamp - q.stamp).toNat) else none
        | none => none) ∧
      (s.noise.block = none → licence s = none →
        t.queue = s.queue ∧ t.noise.block = none ∧ t.noise.discards = s.noise.discards)) ∧
  (∀ (s : State) (n : Nat), s.noise.stall = .running n →
    n < 200000 ∨ (∀ q, s.noise.lastPulse = some q → q.stamp ≠ s.ticks) →
    ∃ t, exec .stallTimerExpiry s = .next t ∧ t = (s.withNoise t.noise).withQueue t.queue ∧
      t.noise =
        { lastPulse := none, interval := none, stall := .stopped, block := none
          discards := if s.noise.block.isSome then min 255 (s.noise.discards + 1) else s.noise.discards } ∧
      (s.noise.block = none → t.queue = s.queue) ∧ (s.noise.block.isSome = true → CountedDiscard s t)) ∧
  ∀ (s : State) (q : Pulse), s.noise.stall = .running 200000 → s.noise.lastPulse = some q → q.stamp = s.ticks →
    exec .stallTimerExpiry s = .next s

/-- A sample with no open block is ignored, and so is one with a block open and T UNKNOWN, which no rule speaks of and no run reaches: the
model's choice (log entry 32). Into an open block below 65,535 samples it is counted and marked, and each used
slot's accumulators take its value times SINE at the slot's phase, from the angle interpolated between two pulses; the block's other
items stay. -/
def Obligations.SampleAccumulates : Prop :=
  ∀ (stamp : Stamp) (w : SampleWord) (s : State),
    ((s.noise.block = none ∨ s.noise.interval = none) → exec (.sampleArrival stamp w) s = .next (s.withTicks stamp)) ∧
    ∀ blk q T c, s.noise.block = some blk → s.noise.lastPulse = some q → s.noise.interval = some T →
      s.ctx = some c → blk.samples ≠ 65535 →
      ∃ t b, exec (.sampleArrival stamp w) s = .next t ∧
        t = (s.withNoise { s.noise with block := some b }).withTicks stamp ∧ b.samples = blk.samples + 1 ∧
        b.pulses = blk.pulses ∧ b.start = blk.start ∧ b.direction = blk.direction ∧ b.flank = blk.flank ∧
        b.linkMark = (blk.linkMark || !parityRight w) ∧
        b.clipMark = (blk.clipMark || sampleValue w == -32768 || sampleValue w == 32767) ∧
        ∀ j : Fin 4,
          let frac := min 127 (128 * (stamp - q.stamp).toNat / T)
          let sign : Int := if blk.direction = .fwd then 1 else -1
          let angle := ((128 * blk.pulses + sign * (frac : Int)) % 65536).toNat
          let i := order c.copy j.val * angle % 65536 / 64
          b.inPhase[j] = blk.inPhase[j] +
            (if order c.copy j.val = 0 then 0 else sampleValue w * sine ((i + 256) % 1024)) ∧
          b.quadrature[j] = blk.quadrature[j] + (if order c.copy j.val = 0 then 0 else sampleValue w * sine i)

/-- The amplitude of a slot: M is the greatest whole number whose square does not exceed I² + Q², and the amplitude is floor((2 × M +
floor(N × 32,767 ÷ 2)) ÷ (N × 32,767)), clamped to 32,767. -/
def Obligations.AmplitudeIsExact : Prop :=
  ∀ (i q : Int) (n : Nat), ∃ m : Nat,
    (m : Int) * m ≤ i * i + q * q ∧ i * i + q * q < ((m : Int) + 1) * (m + 1) ∧
      amplitude i q n = min 32767 ((2 * m + n * 32767 / 2) / (n * 32767))

/-- A pulse acts on the open block. One of the other direction discards it and counts it. One of its own moves the pulse count by one;
short of 512 times the revolutions that is all. At 512 times the revolutions the block closes: with a LINK or CLIP mark, fewer than 64
samples, or a speed below the lowest bin or above the sixteenth it is discarded and counted; else it posts to the record ON TEST. Its
coverage mark is set, every peak of the flank and bin of a used slot is the maximum of itself and the slot's amplitude, no other peak or
mark changes, and each used slot whose amplitude is above a non-zero limit, with no peak of its flank above a non-zero limit before,
appends a NOISE EXCEED entry, in slot order. After a discard or a closure a new block starts at the same pulse exactly when T is known and
the licence holds. A sample into a block of 65,535 samples discards it and counts it. -/
def Obligations.BlockPosts : Prop :=
  (∀ (stamp : Stamp) (e : Direction) (s : State) (c : TestContext) (blk : Block), s.ctx = some c → s.noise.block = some blk →
    ∃ t, exec (.encoderPulse stamp e) s = .next t ∧ t = ((s.withNoise t.noise).withQueue t.queue).withTicks stamp ∧
      (let count : Int := blk.pulses + (if e = .fwd then 1 else -1)
      let full : Prop := count.natAbs = 512 * blockRevs c.copy
      let bad : Prop := blk.linkMark = true ∨ blk.clipMark = true ∨ blk.samples < 64
      let rpm : Nat := 600000000 * blockRevs c.copy / (stamp - blk.start).toNat
      let bin : Nat := (rpm - lowBinSpeed c.copy) / binWidth c.copy
      let outside : Prop := rpm < lowBinSpeed c.copy ∨ 15 < bin
      (e = blk.direction → ¬full →
        t.noise.block = some { blk with pulses := count } ∧ t.noise.discards = s.noise.discards ∧ t.queue = s.queue) ∧
      (e ≠ blk.direction → CountedDiscard s t) ∧
      (e = blk.direction → full → bad → CountedDiscard s t) ∧
      (e = blk.direction → full → ¬bad → stamp ≠ blk.start → outside → CountedDiscard s t) ∧
      (e ≠ blk.direction ∨ full →
        (t.noise.block.isSome = true ↔ t.noise.interval.isSome = true ∧ noiseEnabled c.copy = true ∧ s.mode.mode = .run ∧
          noiseWindow c.copy c.step = true ∧ (c.phase = .ramp ∨ c.phase = .hold)) ∧
        ∀ b, t.noise.block = some b → b = ⟨stamp, e, stepFlank c.copy c.step, 0, 0, Vector.replicate 4 0,
          Vector.replicate 4 0, false, false⟩) ∧
      (e = blk.direction → full → ¬bad → stamp ≠ blk.start → ¬outside → t.noise.discards = s.noise.discards ∧
        ∀ i r n, onTestSlot s = some i → recordAt s i = some r → r.noise = some n → r.faults.length ≤ 6 →
          ∃ r' n', recordAt t i = some r' ∧
            r' = { r with noise := some n', faults := r'.faults, overflow := r'.overflow } ∧
            n'.discards = n.discards ∧ n'.outcome = n.outcome ∧
            (∀ k, n'.coverage[k]?.getD false = true ↔
              n.coverage[k]?.getD false = true ∨ k = 16 * blk.flank.code + bin) ∧
            (∀ j : Fin 4, ∀ f b, b ≤ 15 →
              n'.peaks[cellIndex j.val f b]?.getD 0 =
                if f = blk.flank ∧ b = bin ∧ order c.copy j.val ≠ 0 then
                  max (n.peaks[cellIndex j.val f b]?.getD 0)
                    (amplitude blk.inPhase[j] blk.quadrature[j] blk.samples)
                else n.peaks[cellIndex j.val f b]?.getD 0) ∧
            (let exceed : List FaultEntry := (List.finRange 4).filterMap fun j =>
              let a := amplitude blk.inPhase[j] blk.quadrature[j] blk.samples
              let limit (b : Nat) : Nat := limitAt c.copy (cellIndex j.val blk.flank b)
              if order c.copy j.val ≠ 0 ∧ limit bin ≠ 0 ∧ limit bin < a ∧
                  (∀ b : Fin 16, limit b.val = 0 ∨ n.peaks[cellIndex j.val blk.flank b.val]?.getD 0 ≤ limit b.val) then
                some ⟨.noiseExceed j.val blk.flank bin, c.step, a⟩
              else none
            r'.faults = (r.faults ++ exceed).take 6 ∧
              r'.overflow = if r.faults.length + exceed.length ≤ 6 then r.overflow else .axle)))) ∧
  ∀ (stamp : Stamp) (w : SampleWord) (s : State) (c : TestContext) (blk : Block) (q : Pulse) (T : Nat), s.ctx = some c →
    s.noise.block = some blk → s.noise.lastPulse = some q → s.noise.interval = some T → blk.samples = 65535 →
    ∃ t, exec (.sampleArrival stamp w) s = .next t ∧ t = ((s.withNoise t.noise).withQueue t.queue).withTicks stamp ∧
      t.noise = { s.noise with block := none, discards := min 255 (s.noise.discards + 1) } ∧ CountedDiscard s t

/-! ## Leak testing -/

/-- The fill timer's expiry in FILL is a gross leak: outcome FAIL, the phase VENT with its requests begun, and for the record ON TEST
a LEAK GROSS entry with the last fill reading or 0, the outcome FAIL and the attempt's end GROSS. -/
def Obligations.FillExpiryIsGross : Prop :=
  ∀ s : State, s.leak.phase = .fill → s.leak.fill.isRunning = true →
    ∃ t, exec .fillTimerExpiry s = .next t ∧ t = ((s.withLeak t.leak).withConv t.conv).withQueue t.queue ∧
      t.leak.phase = .vent ∧ t.leak.outcome = some .fail ∧ t.leak.fill = .stopped ∧ t.leak.request = .running 10 ∧
      t.leak.attempts = s.leak.attempts ∧ fillOutput t = false ∧ ventOutput t = true ∧
      ∀ i r l, onTestSlot s = some i → recordAt s i = some r → r.leak = some l → r.faults.length < 6 →
        recordAt t i =
          some { r with
            faults := r.faults ++ [⟨.leakGross, currentStep s, s.leak.lastFill.getD 0⟩]
            leak :=
              some
                (if s.leak.attempts = 1 then { l with outcome := some .fail, endOf1 := some .gross }
                else { l with outcome := some .fail, endOf2 := some .gross }) }

/-- The leak settle timer's expiry enters MEASURE and asks for the start burst, and the measure timer's asks for the end burst: BURST
LENGTH conversions of P and then as many of TA, with the counts, sums and range mark cleared. The check timer's expiry asks for one held
burst of 8 P conversions with the count and sum cleared. -/
def Obligations.BurstTimersAsk : Prop :=
  (∀ (s : State) (c : TestContext), s.ctx = some c →
    (let n := burstLength c.copy
    let burst : Request := .burst (List.replicate n .p ++ List.replicate n .ta)
    (s.leak.phase = .settle → s.leak.settle.isRunning = true →
      exec .leakSettleTimerExpiry s =
        .next ((s.withLeak
          { s.leak with
            phase := .measure, settle := .stopped, burst := some .start, pCount := 0, taCount := 0, pSum := 0, taSum := 0
            rangeMark := false }).withConv (s.conv.request .leak burst))) ∧
    (s.leak.phase = .measure → s.leak.measure.isRunning = true →
      exec .measureTimerExpiry s =
        .next ((s.withLeak
          { s.leak with
            measure := .stopped, burst := some .finish, pCount := 0, taCount := 0, pSum := 0, taSum := 0
            rangeMark := false }).withConv (s.conv.request .leak burst))))) ∧
  ∀ (s : State) (k : CheckKind), s.zero.check = some ⟨k, .settle⟩ → s.zero.timer.isRunning = true →
    exec .checkTimerExpiry s =
      .next ((s.withZero { s.zero with check := some ⟨k, .burst⟩, timer := .stopped, count := 0, sum := 0 }).withConv
        (s.conv.request .zero (.burst [.p, .p, .p, .p, .p, .p, .p, .p])))

/-- The compensated leak rate: none exactly when the expected end pressure is at or below the end pressure, and otherwise the loss
per minute rounded to nearest with a half rounded up, clamped to 65,535. -/
def Obligations.LeakRateRounds : Prop :=
  ∀ (a e : PressureTemp) (m : Nat), 0 < m → 0 < a.temperature →
    (let x := expectedPressure a e
    2 * (x * a.temperature) ≤ 2 * (a.pressure * e.temperature) + a.temperature ∧
      2 * (a.pressure * e.temperature) < 2 * (x * a.temperature) + a.temperature + a.temperature % 2 ∧
      (leakRate a e m = none ↔ x ≤ e.pressure) ∧
      ∀ rate, leakRate a e m = some rate → rate ≤ 65535 ∧
        2 * (rate * m) ≤ 2 * ((x - e.pressure) * 60000) + m ∧
        (rate < 65535 → 2 * ((x - e.pressure) * 60000) < 2 * (rate * m) + m + m % 2))

/-! ## Zero check and converter -/

/-- Whichever requester asked, a completion of P in progress becomes the last pressure reading, and a completion of TA or TO leaves it. What
it delivers: in FILL, P becomes the last fill reading, and at or above FILL TARGET ends FILL; in MEASURE it is added to the burst, and the
last TA of a burst forms its averages, which start the measuring span or, after it, give the rate and the outcome, or it interrupts the
attempt as SENSOR; in VENT, P below the threshold gives DONE, which answers VENT WAIT; TO is an oil reading, judged while DRIVE ENABLE is
on by range, OIL PREWARN and OIL SHUTDOWN; a spot value is raised as CONVERT; a ZERO value is added to the check, and the eighth has the
check judged. A LEAK or ZERO value that its requester has withdrawn is disregarded. A withdrawn OIL value is not judged, though DRIVE ENABLE
may be on again: it is the last oil reading, and one in range goes to the run-in section's maximum. The order of these at one completion, that
a LEAK or ZERO value stays withdrawn after a new request, that a reading is posted before it is judged, that the stale timer stays as it is
while TEMP STALE is SET, that a withdrawn reading restarts it while DRIVE ENABLE is on, and that a complete burst is no longer in progress are
the model's readings (log entries 9, 10, 11, 19, 36 and 38). -/
def Obligations.CompletionSetsPressure : Prop :=
  (∀ (v : Word16) (s : State) (c : Conversion), s.conv.inProgress = some c →
    ∃ t, exec (.conversionCompletion v) s = .next t ∧
      t.conv.lastP = (if c.channel = .p then some v.toNat else s.conv.lastP) ∧ t.conv.classes = s.conv.classes ∧
      t.conv.spotMasked = s.conv.spotMasked ∧ t.store = s.store ∧ t.link = s.link ∧ t.ports = s.ports ∧
      t.queue.nextSeq = s.queue.nextSeq ∧ t.pending = s.pending) ∧
  -- FILL
  (∀ (v : Word16) (s : State) (c : TestContext), s.conv.inProgress = some ⟨.leak, .p, true⟩ → s.ctx = some c →
    s.leak.phase = .fill → s.leak.burst = none →
    ∃ t, exec (.conversionCompletion v) s = .next t ∧
      (v.toNat < fillTarget c.copy → t.leak = { s.leak with lastFill := some v.toNat }) ∧
      (fillTarget c.copy ≤ v.toNat → t.conv.waiting.leak = none ∧ t.leak =
        { s.leak with
          phase := .settle, lastFill := some v.toNat, fill := .stopped, measure := .stopped, request := .stopped
          settle :=
            if s.mode.mode = .run ∧ leakQuiet c.copy c.step = true then .running (leakSettleTime c.copy * 100)
            else .stopped })) ∧
  -- MEASURE
  (∀ (v : Word16) (s : State) (ch : Channel) (c : TestContext) (kind : BurstKind),
    s.conv.inProgress = some ⟨.leak, ch, true⟩ → s.ctx = some c → s.leak.phase = .measure → s.leak.burst = some kind →
    ∃ t, exec (.conversionCompletion v) s = .next t ∧
      (let n := burstLength c.copy
      let mark : Bool := s.leak.rangeMark || decide (v.toNat < 2330 ∨ 4230 < v.toNat)
      let average : PressureTemp := ⟨(s.leak.pSum + n / 2) / n, (s.leak.taSum + v.toNat + n / 2) / n⟩
      (ch = .p → ¬(s.leak.pCount + 1 = n ∧ s.leak.taCount = n) →
        t.leak = { s.leak with pSum := s.leak.pSum + v.toNat, pCount := s.leak.pCount + 1 }) ∧
      (ch = .ta → ¬(s.leak.pCount = n ∧ s.leak.taCount + 1 = n) →
        t.leak = { s.leak with taSum := s.leak.taSum + v.toNat, taCount := s.leak.taCount + 1, rangeMark := mark }) ∧
      (ch = .ta → s.leak.pCount = n → s.leak.taCount + 1 = n →
        (mark = true → t.leak.burst = none ∧ t.leak.measure = .stopped ∧
          (s.leak.attempts = 1 → t.leak.phase = .wait ∧ t.leak.outcome = s.leak.outcome) ∧
          (s.leak.attempts ≠ 1 → t.leak.phase = .vent ∧ t.leak.outcome = some .notDecided) ∧
          ∀ i r l, onTestSlot s = some i → recordAt s i = some r → r.leak = some l →
            recordAt t i = some { r with
              leak := some (if s.leak.attempts = 1 then { l with endOf1 := some .sensor }
                else { l with endOf2 := some .sensor, outcome := some .notDecided }) }) ∧
        (mark = false → kind = .start → t.leak.phase = .measure ∧ t.leak.burst = none ∧
          t.leak.startValues = some average ∧ t.leak.measure = .running (measureTime c.copy) ∧
          ∀ i r l, onTestSlot s = some i → recordAt s i = some r → r.leak = some l →
            recordAt t i = some { r with leak := some { l with startValues := some average } }) ∧
        (mark = false → kind = .finish → ∀ a, s.leak.startValues = some a →
          (let rate := (leakRate a average (measureTime c.copy)).getD 0
          let fails : Prop := rateLimit c.copy < rate
          t.leak.phase = .vent ∧ t.leak.burst = none ∧
            (fails → t.leak.outcome = some .fail) ∧ (¬fails → t.leak.outcome = some .pass) ∧
            ∀ i r l, onTestSlot s = some i → recordAt s i = some r → r.leak = some l → r.faults.length < 6 →
              ∃ r' l', recordAt t i = some r' ∧ r' = { r with leak := some l', faults := r'.faults } ∧
                (fails → r'.faults = r.faults ++ [⟨.leakRate, c.step, rate⟩] ∧ l'.outcome = some .fail) ∧
                (¬fails → r'.faults = r.faults ∧ l'.outcome = some .pass) ∧
                l' = { l with
                  endValues := some average, rate := some rate, rise := (leakRate a average (measureTime c.copy)).isNone
                  outcome := l'.outcome, endOf1 := if s.leak.attempts = 1 then some .completed else l.endOf1
                  endOf2 := if s.leak.attempts = 1 then l.endOf2 else some .completed }))))) ∧
  -- VENT
  (∀ (v : Word16) (s : State) (r : Requester) (x : Bool), r = .leak ∨ r = .spot → s.conv.inProgress = some ⟨r, .p, x⟩ →
    s.leak.phase = .vent →
    ∃ t, exec (.conversionCompletion v) s = .next t ∧
      (let threshold := (if s.zero.refValid then s.zero.reference else 10133) + s.zero.ventOffset
      (threshold ≤ v.toNat → t.leak = s.leak ∧ t.ctx = s.ctx) ∧
      (v.toNat < threshold → t.leak.phase = .done ∧ t.leak.request = .stopped ∧ t.leak.outcome = s.leak.outcome ∧
        (∀ c, s.ctx = some c → c.phase ≠ .finish .ventWait → t.ctx = some c) ∧
        ∀ c, s.ctx = some c → c.phase = .finish .ventWait → s.mode.mode = .pause →
          t.ctx = some { c with phase := .finish .zeroWait, requestHeld := true }))) ∧
  -- OIL
  (∀ (v : Word16) (s : State) (x : Bool), s.conv.inProgress = some ⟨.oil, .to, x⟩ →
    ∃ t, exec (.conversionCompletion v) s = .next t ∧ t.sup.lastOil = some v.toNat ∧
      (let fits : Prop := 2330 ≤ v.toNat ∧ v.toNat ≤ 4230
      let stale : Timer := if latchSet s .tempStale then s.sup.stale else .running 500
      let judged : Prop := x = true ∧ driveEnable s = true
      (¬judged → t.mode = s.mode ∧ t.ctx = s.ctx ∧ t.events = s.events ∧
        t.sup = { s.sup with lastOil := some v.toNat, stale := if driveEnable s then stale else s.sup.stale } ∧
        ∀ i r y, s.ctx.isSome = true → onTestSlot s = some i → recordAt s i = some r → r.runIn = some y →
          (fits → recordAt t i = some { r with runIn := some { y with maxOil := max y.maxOil v.toNat } }) ∧
          (¬fits → recordAt t i = some r)) ∧
      (judged → ¬fits → t.mode.mode = .stop ∧ t.sup.oilCount = 0 ∧
        latchValue t .sensor = some ((latchValue s .sensor).getD v.toNat) ∧
        ∀ k, k ≠ .sensor → latchValue t k = latchValue s k) ∧
      (judged → fits → s.ctx = none → t.mode = s.mode ∧
        t.sup = { s.sup with lastOil := some v.toNat, stale := stale, oilCount := 0 }) ∧
      ∀ c, judged → fits → s.ctx = some c →
        (let warns : Prop := oilPrewarn c.copy ≤ v.toNat
        (warns → latchValue t .oilPrewarn = some ((latchValue s .oilPrewarn).getD v.toNat)) ∧
        (¬warns → latchValue t .oilPrewarn = latchValue s .oilPrewarn) ∧
        (∀ k, k ≠ .oilPrewarn → k ≠ .oilShutdown → latchValue t k = latchValue s k) ∧
        (v.toNat < oilShutdown c.copy ∨ s.sup.oilCount = 0 → t.mode = s.mode ∧ t.ctx = s.ctx ∧ t.sup.stale = stale ∧
          t.sup.oilCount = (if v.toNat < oilShutdown c.copy then 0 else 1) ∧
          latchValue t .oilShutdown = latchValue s .oilShutdown ∧
          ∀ i r y, onTestSlot s = some i → recordAt s i = some r → r.runIn = some y →
            ∃ y', recordAt t i = some { r with runIn := some y' } ∧
              y' = { y with maxOil := max y.maxOil v.toNat, prewarnSeen := y'.prewarnSeen } ∧
              (y'.prewarnSeen = true ↔ y.prewarnSeen = true ∨ warns)) ∧
        (oilShutdown c.copy ≤ v.toNat → s.sup.oilCount ≠ 0 → t.mode.mode = .stop ∧ t.ctx = none ∧ t.sup.oilCount = 0 ∧
          latchValue t .oilShutdown = some ((latchValue s .oilShutdown).getD v.toNat))))) ∧
  -- SPOT
  (∀ (v : Word16) (s : State) (ch : Channel) (x : Bool), s.conv.inProgress = some ⟨.spot, ch, x⟩ →
    ∃ t, exec (.conversionCompletion v) s = .next t ∧
      ∀ q, mark t 9 q = if (routeOf s 9).has q = true then some (.convert ch v.toNat) else mark s 9 q) ∧
  -- withdrawn
  (∀ (v : Word16) (s : State) (r : Requester) (ch : Channel), r = .leak ∨ r = .zero →
    s.conv.inProgress = some ⟨r, ch, false⟩ → (ch = .p → s.leak.phase ≠ .vent ∧ s.mode.target = none) →
    exec (.conversionCompletion v) s =
      .next (s.withConv (grant
        { s.conv with
          inProgress := none
          owner :=
            match s.conv.owner with
            | some ⟨o, _ :: x :: xs⟩ => some ⟨o, x :: xs⟩
            | _ => none
          lastP := if ch = .p then some v.toNat else s.conv.lastP }))) ∧
  -- ZERO
  ∀ (v : Word16) (s : State) (k : CheckKind), s.conv.inProgress = some ⟨.zero, .p, true⟩ →
    s.zero.check = some ⟨k, .burst⟩ → s.leak.phase ≠ .vent → s.mode.target = none →
    ∃ t, exec (.conversionCompletion v) s = .next t ∧
      (s.zero.count + 1 ≠ 8 →
        t = (s.withZero { s.zero with sum := s.zero.sum + v.toNat, count := s.zero.count + 1 }).withConv t.conv ∧
        (∀ c rest, s.conv.owner = some ⟨.zero, .p :: c :: rest⟩ →
          t.conv.owner = some ⟨.zero, c :: rest⟩ ∧ t.conv.inProgress = some ⟨.zero, c, true⟩ ∧
          t.conv.waiting = s.conv.waiting)) ∧
      (s.zero.count + 1 = 8 →
        ∃ a, t =
          ((judgeCheck k ((s.withConv a).withZero { s.zero with sum := s.zero.sum + v.toNat, count := 8 })).withConv
            t.conv).withLeak t.leak)

/-- The grant rule. A burst owner with conversions left keeps the converter for its next channel, and no pointer moves; one with none left
is cleared and the rule goes on. Then, with the low slot due and a LOW requester pending, a LOW one is granted and the flag cleared; else a
pending HIGH requester is granted before any LOW one, and the flag is set where the grant wraps; else a pending LOW one; with none pending
nothing is granted. Of the pending requesters of the class the one that the search after the class's pointer meets first is taken: its
request goes, and its conversion is in progress, a burst's owner with the burst's channels in order. The rule runs at a request that finds the converter idle with
no burst owner, which is granted so at its arrival, and at each completion, of which it is the last effect; a request waits otherwise. Till
that grant no pointer and no flag moves, no waiting SPOT request is touched, and an owner has one conversion less or none left. -/
def Obligations.GrantFollowsClasses : Prop :=
  (∀ (a : Arbiter) (r : Requester) (c : Channel) (rest : List Channel), a.owner = some ⟨r, c :: rest⟩ →
    grant a = { a with inProgress := some ⟨r, c, true⟩ }) ∧
  (∀ (a : Arbiter) (r : Requester), a.owner = some ⟨r, []⟩ → grant a = grant { a with owner := none }) ∧
  (∀ a : Arbiter, a.owner = none → a.inProgress = none → (∀ r, a.waiting.get r ≠ some (.burst [])) →
    (let pending (k : Sys2Proof.Machine.Class) (r : Requester) : Prop := (a.waiting.get r).isSome = true ∧ a.classes.get r = k
    let place (pointer : Option Requester) (r : Requester) : Nat :=
      match pointer with
      | none => position r
      | some h => (position r + 3 - position h) % 4
    let first (pointer : Option Requester) (k : Sys2Proof.Machine.Class) (r : Requester) : Prop :=
      pending k r ∧ ∀ q, pending k q → q ≠ r → place pointer r < place pointer q
    let taken (r : Requester) : Prop := ∃ ch, (grant a).inProgress = some ⟨r, ch, true⟩ ∧
      (grant a).waiting = a.waiting.set r none ∧ (grant a).classes = a.classes ∧ (grant a).lastP = a.lastP ∧
      ((a.waiting.get r = some (.single ch) ∧ (grant a).owner = none) ∨
        ∃ rest, a.waiting.get r = some (.burst (ch :: rest)) ∧ (grant a).owner = some ⟨r, ch :: rest⟩)
    (a.lowDue = true → (∃ r, pending .low r) →
      ∃ r, first a.low .low r ∧ taken r ∧ (grant a).lowDue = false ∧ (grant a).low = some r ∧ (grant a).high = a.high) ∧
    (¬(a.lowDue = true ∧ ∃ r, pending .low r) → (∃ r, pending .high r) →
      ∃ r, first a.high .high r ∧ taken r ∧ (grant a).high = some r ∧ (grant a).low = a.low ∧
        ((grant a).lowDue = true ↔ a.lowDue = true ∨ ∃ h, a.high = some h ∧ position r ≤ position h)) ∧
    (¬(∃ r, pending .high r) → (∃ r, pending .low r) →
      ∃ r, first a.low .low r ∧ taken r ∧ (grant a).low = some r ∧ (grant a).high = a.high ∧ (grant a).lowDue = false) ∧
    (¬(∃ r, pending .high r) → ¬(∃ r, pending .low r) → grant a = a))) ∧
  -- a request
  (∀ (a : Arbiter) (r : Requester) (q : Request),
    (let asked : Arbiter := { a with waiting := a.waiting.set r (some q) }
    (a.inProgress = none → a.owner = none → a.request r q = grant asked) ∧
    (a.inProgress ≠ none ∨ a.owner ≠ none → a.request r q = asked))) ∧
  (∀ (channel : Byte) (ch : Channel) (s : State), PortOpen .cell s → ch.code = channel.toNat → s.conv.spotMasked = false →
    s.conv.waiting.spot = none →
    (let asked : Arbiter := { s.conv with waiting := s.conv.waiting.set .spot (some (.single ch)) }
    (s.conv.inProgress = none → s.conv.owner = none →
      exec (.spotConvert .cell channel) s = .next (reply .cell ⟨.ok, []⟩ (s.withConv (grant asked)))) ∧
    ∀ c, s.conv.inProgress = some c → c.requester ≠ .spot →
      exec (.spotConvert .cell channel) s = .next (reply .cell ⟨.ok, []⟩ (s.withConv asked)))) ∧
  -- a completion
  (∀ (v : Word16) (s : State) (c : Conversion), s.conv.inProgress = some c →
    ∃ t a, exec (.conversionCompletion v) s = .next t ∧ t.conv = grant a ∧ a.inProgress = none ∧
      a.high = s.conv.high ∧ a.low = s.conv.low ∧ a.lowDue = s.conv.lowDue ∧ a.classes = s.conv.classes ∧
      a.waiting.spot = s.conv.waiting.spot ∧
      ∀ r left, a.owner = some ⟨r, left⟩ → ∃ x xs, s.conv.owner = some ⟨r, x :: xs⟩ ∧ (left = xs ∨ left = [])) ∧
  ∀ (v : Word16) (s : State) (ch : Channel) (x : Bool), s.conv.inProgress = some ⟨.spot, ch, x⟩ → ch ≠ .p →
    s.conv.owner = none →
    exec (.conversionCompletion v) s =
      .next ((raise (.convert ch v.toNat) s).withConv (grant { s.conv with inProgress := none }))

/-- ZERO CAPTURE in IDLE and ZERO CHECK between tests with a VALID reference, with no check in progress, start their check, with the check
timer at 2,000 ms and nothing else; each is refused by its first reason otherwise. SPOT CONVERT is refused with RANGE for no channel,
with ACCESS and no event while masked, with BUSY while an earlier one is outstanding; otherwise it places one single request. -/
def Obligations.ConverterCommands : Prop :=
  (∀ s : State, PortOpen .cell s →
    (s.mode.mode = .idle → s.zero.check = none →
      exec (.zeroCapture .cell) s =
        .next (reply .cell ⟨.ok, []⟩
          (s.withZero { s.zero with check := some ⟨.capture, .settle⟩, timer := .running 2000 }))) ∧
    (s.mode.mode ≠ .idle → exec (.zeroCapture .cell) s = .next (reply .cell ⟨.mode, []⟩ s)) ∧
    (s.mode.mode = .idle → s.zero.check ≠ none → exec (.zeroCapture .cell) s = .next (reply .cell ⟨.busy, []⟩ s)) ∧
    (s.mode.mode = .idle ∨ s.mode.mode = .ready → (∀ i, ¬OnTest s i) → s.zero.check = none → s.zero.refValid = true →
      exec (.zeroCheck .cell) s =
        .next (reply .cell ⟨.ok, []⟩
          (s.withZero { s.zero with check := some ⟨.command, .settle⟩, timer := .running 2000 }))) ∧
    (¬(s.mode.mode = .idle ∨ s.mode.mode = .ready) ∨ (∃ i, OnTest s i) ∨ s.zero.check ≠ none →
      exec (.zeroCheck .cell) s = .next (reply .cell ⟨.busy, []⟩ s)) ∧
    (s.mode.mode = .idle ∨ s.mode.mode = .ready → (∀ i, ¬OnTest s i) → s.zero.check = none → s.zero.refValid = false →
      exec (.zeroCheck .cell) s = .next (reply .cell ⟨.zero, []⟩ s))) ∧
  ∀ (channel : Byte) (s : State), PortOpen .cell s →
    (2 < channel.toNat → exec (.spotConvert .cell channel) s = .next (reply .cell ⟨.range, []⟩ s)) ∧
    ∀ ch, ch.code = channel.toNat →
      (s.conv.spotMasked = true → exec (.spotConvert .cell channel) s = .next (reply .cell ⟨.access, []⟩ s)) ∧
      (s.conv.spotMasked = false →
        (s.conv.waiting.spot ≠ none ∨ ∃ c, s.conv.inProgress = some c ∧ c.requester = .spot) →
        exec (.spotConvert .cell channel) s = .next (reply .cell ⟨.busy, []⟩ s)) ∧
      (s.conv.spotMasked = false → s.conv.waiting.spot = none →
        (∀ c, s.conv.inProgress = some c → c.requester ≠ .spot) →
        exec (.spotConvert .cell channel) s =
          .next (reply .cell ⟨.ok, []⟩ (s.withConv (s.conv.request .spot (.single ch)))))

/-- The judgement of a check by its burst average. A good check, of any kind, turns every UNCHECKED record CHECKED, sets the count to 0,
clears the forced flag and raises ZERO with GOOD; a CAPTURE is always good and takes the average as a VALID reference. A failed check turns
every UNCHECKED record SUSPECT, sets the count to 0, logs the marked and departed counts with the rest of its entry, and raises SUSPECT
and ZERO with FAILED; under FLAG it sets the forced flag and keeps the mode, and under HALT it enters HALT from any mode, with its HALT
event. An END OF TEST check judges its own record too, which takes CHECKED, or SUSPECT with a ZERO FAIL entry, whatever status it
had: with the test in ZERO WAIT in RUN that record is then decided, in READY after a good check or under FLAG, and in HALT under HALT. A
COMMAND check with sixteen UNCHECKED records logs a marked count of 16: the model's reading (log entry 16). -/
def Obligations.ChecksJudged : Prop :=
  let average (s : State) : Nat := (s.zero.sum + 4) / 8
  let good (s : State) : Prop :=
    ((average s - s.zero.reference) + (s.zero.reference - average s)) ≤ s.zero.tolerance
  let judged (z : ZeroStatus) (r : Record) : Record := if r.zero = some .unchecked then { r with zero := some z } else r
  -- a failed COMMAND check
  (∀ s : State, ¬good s →
    (let t := judgeCheck .command s
    let marked := countRecords s fun r => r.zero == some .unchecked
    t.zero.check = none ∧ t.zero.unchecked = 0 ∧ t.zero.reference = s.zero.reference ∧ t.zero.refValid = s.zero.refValid ∧
      t.zero.log.getLast? =
        some ⟨.command, average s, s.zero.reference, s.zero.tolerance, marked, s.zero.unchecked - marked, none,
          s.zero.policy⟩ ∧
      t.zero.log.length = min 8 (s.zero.log.length + 1) ∧
      (∀ q, (routeOf s 3).has q = true → mark t 3 q = some (.suspect marked (s.zero.unchecked - marked))) ∧
      (∀ q, (routeOf s 8).has q = true → mark t 8 q = some (.zero .command .failed (average s))) ∧
      (∀ i r, recordAt s i = some r → r.state ≠ .onTest → recordAt t i = some (judged .suspect r)) ∧
      (s.zero.policy = .flag → t.zero.forced = true ∧ t.mode = s.mode ∧ t.ctx = s.ctx ∧
        ∀ i, recordAt t i = (recordAt s i).map (judged .suspect)) ∧
      (s.zero.policy = .halt → t.zero.forced = s.zero.forced ∧ t.mode.mode = .halt ∧ t.mode.target = none ∧ t.ctx = none ∧
        t.mode.guards = s.mode.guards ∧ t.demand = { s.demand with speed := 0, wheel := 0, ramp := none } ∧
        t.leak.phase = .vent ∧ driveEnable t = false ∧ unclampPermit t = false ∧
        ∀ q, (routeOf s 0).has q = true → mark t 0 q = some (.halt s.mode.mode)))) ∧
  -- a good COMMAND check
  (∀ s : State, good s →
    (let t := judgeCheck .command s
    t.zero = { s.zero with check := none, timer := .stopped, unchecked := 0, forced := false } ∧ t.mode = s.mode ∧
      t.ctx = s.ctx ∧ t.leak = s.leak ∧ t.conv = s.conv ∧
      (∀ q, (routeOf s 8).has q = true → mark t 8 q = some (.zero .command .good (average s))) ∧
      ∀ i, recordAt t i = (recordAt s i).map (judged .checked))) ∧
  -- a CAPTURE
  (∀ s : State,
    (let t := judgeCheck .capture s
    t.zero.reference = average s ∧ t.zero.refValid = true ∧ t.zero.check = none ∧ t.zero.unchecked = 0 ∧
      t.zero.forced = false ∧ t.zero.log = s.zero.log ∧ t.mode = s.mode ∧ t.ctx = s.ctx ∧
      (∀ q, (routeOf s 8).has q = true → mark t 8 q = some (.zero .capture .good (average s))) ∧
      ∀ i, recordAt t i = (recordAt s i).map (judged .checked))) ∧
  -- an END OF TEST check
  ∀ (s : State) (c : TestContext) (i : Fin 16) (r : Record) (z : ZeroStatus), s.mode.mode = .run → s.ctx = some c →
    c.phase = .finish .zeroWait → onTestSlot s = some i → recordAt s i = some r → r.zero = some z → r.faults.length < 6 →
    (let t := judgeCheck .endOfTest s
    let marked := ((List.finRange 16).filter fun j =>
      decide (j ≠ i) && slotHas s (fun x => x.zero == some .unchecked) j).length
    t.zero.check = none ∧ t.zero.unchecked = 0 ∧ t.ctx = none ∧
      (∀ j x, j ≠ i → recordAt s j = some x → x.state ≠ .onTest →
        recordAt t j = some (judged (if good s then .checked else .suspect) x)) ∧
      (good s → t.mode.mode = .ready ∧ t.zero.forced = false ∧ t.zero.log = s.zero.log ∧
        (∀ q, (routeOf s 8).has q = true → mark t 8 q = some (.zero .endOfTest .good (average s))) ∧
        ∃ r', recordAt t i = some r' ∧ r'.state = .decided ∧ r'.zero = some .checked ∧ r'.faults = r.faults) ∧
      (¬good s →
        t.zero.log.getLast? =
          some ⟨.endOfTest, average s, s.zero.reference, s.zero.tolerance, marked, s.zero.unchecked - marked, some i,
            s.zero.policy⟩ ∧
        (∀ q, (routeOf s 3).has q = true → mark t 3 q = some (.suspect marked (s.zero.unchecked - marked))) ∧
        (∀ q, (routeOf s 8).has q = true → mark t 8 q = some (.zero .endOfTest .failed (average s))) ∧
        (∃ r', recordAt t i = some r' ∧ r'.state = .decided ∧ r'.zero = some .suspect ∧
          r'.faults = r.faults ++ [⟨.zeroFail, c.step, average s⟩]) ∧
        (s.zero.policy = .flag → t.mode.mode = .ready ∧ t.zero.forced = true) ∧
        (s.zero.policy = .halt → t.mode.mode = .halt ∧ t.zero.forced = s.zero.forced ∧
          ∀ q, (routeOf s 0).has q = true → mark t 0 q = some (.halt .run))))

/-! ## Records -/

/-- The oldest record of which something holds, where the numbers of the present records lie within 32,768 of each other: none exactly when it holds
of no present record, and otherwise one of which it holds and that is older than every other such record by the comparison modulo
65,536. -/
def Obligations.OldestIsFirst : Prop :=
  ∀ (s : State) (p : Record → Bool) (base : Word16),
    (∀ i r, recordAt s i = some r → (r.seq - base).toNat ≤ 32767) →
    (oldestSlot s p = none ↔ ∀ i r, recordAt s i = some r → p r = false) ∧
    ∀ i, oldestSlot s p = some i → ∃ r, recordAt s i = some r ∧ p r = true ∧
      ∀ j b, recordAt s j = some b → p b = true → b.seq ≠ r.seq →
        1 ≤ (b.seq - r.seq).toNat ∧ (b.seq - r.seq).toNat ≤ 32767

/-- An INDUCT that passes its checks places a QUEUED record in the lowest-numbered empty slot with the counter's number and the
retest number, and answers with the three; the counter advances, the sixteenth record raises QUEUE FULL, and nothing else
changes. -/
def Obligations.InductPlaces : Prop :=
  ∀ (serial : List Byte) (recipe : Byte) (s : State) (i : Fin 16) (x : Recipe), PortOpen .line s → s.mode.mode ≠ .halt →
    1 ≤ serial.length → serial.length ≤ 20 → (∀ b ∈ serial, 0x21 ≤ b.toNat ∧ b.toNat ≤ 0x7E) →
    s.store.recipes[recipe.toNat]? = some x → x.valid = true →
    recordAt s i = none → (∀ j, j < i → recordAt s j ≠ none) →
    (∀ j r, recordAt s j = some r → r.serial = serial → r.state = .decided ∧ r.released = true ∧ r.retest < 3) →
    ∃ t n, exec (.induct .line serial recipe) s = .next t ∧
      t = ((s.withQueue t.queue).withEvents t.events).withPorts t.ports ∧
      recordAt t i =
        some ⟨serial, recipe.toNat, n, s.queue.nextSeq, .queued, false, false, none, none, none, none, [], .clear, none⟩ ∧
      (∀ j, j ≠ i → recordAt t j = recordAt s j) ∧ t.queue.nextSeq = s.queue.nextSeq + 1 ∧
      t.ports = s.ports.set .line ⟨⟨.ok, [byte i.val] ++ be16 s.queue.nextSeq.toNat ++ [byte n]⟩, .idle⟩ ∧
      (∀ j r, recordAt s j = some r → r.serial = serial → r.retest < n) ∧
      (n ≠ 0 → ∃ j r, recordAt s j = some r ∧ r.serial = serial ∧ r.retest + 1 = n) ∧
      (presentCount s = 15 → ∀ q, (routeOf s 5).has q = true → mark t 5 q = some (.queueFull i)) ∧
      (presentCount s ≠ 15 → t.events = s.events)

/-- INDUCT is refused with HALTED, SERIAL, RECIPE, FULL, DUPLICATE (with the slot of the oldest record of the serial that is not decided and
released) and RETEST (a released record of the serial has retest number 3), and START with HALTED, MODE, NONE, ZERO, RECIPE and PATCH, the
first that applies, and a refusal changes nothing but the held reply. -/
def Obligations.LineCommandsRefused : Prop :=
  (∀ (serial : List Byte) (recipe : Byte) (s : State), PortOpen .line s →
    (s.mode.mode = .halt → exec (.induct .line serial recipe) s = .next (reply .line ⟨.halted, []⟩ s)) ∧
    (s.mode.mode ≠ .halt →
      (serial = [] ∨ 20 < serial.length ∨ ∃ b ∈ serial, b.toNat < 0x21 ∨ 0x7E < b.toNat) →
      exec (.induct .line serial recipe) s = .next (reply .line ⟨.serial, []⟩ s)) ∧
    (s.mode.mode ≠ .halt → serialGood serial = true → recipeValid s.store recipe.toNat = false →
      exec (.induct .line serial recipe) s = .next (reply .line ⟨.recipe, []⟩ s)) ∧
    (s.mode.mode ≠ .halt → serialGood serial = true → recipeValid s.store recipe.toNat = true →
      (∀ i, recordAt s i ≠ none) → exec (.induct .line serial recipe) s = .next (reply .line ⟨.full, []⟩ s)) ∧
    (s.mode.mode ≠ .halt → serialGood serial = true → recipeValid s.store recipe.toNat = true →
      (∃ i, recordAt s i = none) →
      (∀ j, oldestSlot s (fun r => r.serial == serial && !(r.state == .decided && r.released)) = some j →
        exec (.induct .line serial recipe) s = .next (reply .line ⟨.duplicate, [byte j.val]⟩ s)) ∧
      ((∀ j r, recordAt s j = some r → r.serial = serial → r.state = .decided ∧ r.released = true) →
        (∃ j r, recordAt s j = some r ∧ r.serial = serial ∧ 3 ≤ r.retest) →
        exec (.induct .line serial recipe) s = .next (reply .line ⟨.retest, []⟩ s)))) ∧
  ∀ s : State, PortOpen .line s →
    (s.mode.mode = .halt → exec (.start .line) s = .next (reply .line ⟨.halted, []⟩ s)) ∧
    (s.mode.mode ≠ .halt → s.mode.mode ≠ .ready → exec (.start .line) s = .next (reply .line ⟨.mode, []⟩ s)) ∧
    (s.mode.mode = .ready →
      (oldestSlot s (fun r => r.state == .queued) = none →
        exec (.start .line) s = .next (reply .line ⟨.none, []⟩ s)) ∧
      ∀ i r, oldestSlot s (fun r => r.state == .queued) = some i → recordAt s i = some r →
        (s.zero.refValid = false → exec (.start .line) s = .next (reply .line ⟨.zero, []⟩ s)) ∧
        (s.zero.refValid = true → recipeValid s.store r.recipe = false →
          exec (.start .line) s = .next (reply .line ⟨.recipe, []⟩ s)) ∧
        ∀ x f, s.zero.refValid = true → s.store.recipes[r.recipe]? = some x → x.valid = true →
          firstFailure (patchedCopy s.store r.recipe x.items) = some f →
          (∀ e, chargedPatch s.store r.recipe f = some e →
            exec (.start .line) s = .next (reply .line ⟨.patch, byte e.val :: itemBytes f.reported⟩ s)) ∧
          (chargedPatch s.store r.recipe f = none →
            exec (.start .line) s = .next (reply .line ⟨.recipe, itemBytes f.reported⟩ s)))

/-- START that passes its checks, with all bus states NORMAL, enters RUN with a test context on the patched copy, the copy's torque
limit, the analyser's discarded-block count at 0, and the oldest QUEUED record ON TEST with the sections that the copy enables; it answers
with the record's slot, sequence number and retest number. In the patched copy an item that enabled entries of the recipe target has the
value of the last of them in entry order, and every other item is the recipe's; the patch charged with a failed check is the lowest such
entry whose target the check examines. -/
def Obligations.StartRuns : Prop :=
  (∀ (st : RecipeStore) (recipe : Nat) (r : Items),
    (let applies (e : Fin 8) : Prop := (st.patches[e]).enabled = true ∧ (st.patches[e]).recipe = recipe
    (∀ k, (∀ e, applies e → itemOffset (st.patches[e]).target ≠ some k) →
      item (patchedCopy st recipe r) k = item r k) ∧
    (∀ k e, applies e → itemOffset (st.patches[e]).target = some k →
      (∀ f, e < f → applies f → itemOffset (st.patches[f]).target ≠ some k) →
      item (patchedCopy st recipe r) k = (st.patches[e]).value) ∧
    ∀ x : RecipeCheck,
      (let charged (e : Fin 8) : Prop := applies e ∧ (st.patches[e]).target ∈ x.examined
      (∀ e, chargedPatch st recipe x = some e ↔ charged e ∧ ∀ f, f < e → ¬charged f) ∧
        (chargedPatch st recipe x = none ↔ ∀ e, ¬charged e)))) ∧
  ∀ (s : State) (i : Fin 16) (r : Record) (x : Recipe), PortOpen .line s → s.mode.mode = .ready →
    (∀ j, ¬OnTest s j) → oldestSlot s (fun r => r.state == .queued) = some i → recordAt s i = some r →
    s.zero.refValid = true → s.store.recipes[r.recipe]? = some x → x.valid = true →
    firstFailure (patchedCopy s.store r.recipe x.items) = none → supplyBad s = false →
    ∃ t c r', exec (.start .line) s = .next t ∧ t.mode.mode = .run ∧ t.mode.pauseKind = .none ∧ t.ctx = some c ∧
      c.copy = patchedCopy s.store r.recipe x.items ∧ t.demand.limit = inputTorqueLimit c.copy ∧
      recordAt t i = some r' ∧ r'.state = .onTest ∧ r'.runIn.isSome = true ∧ r'.noise.isSome = noiseEnabled c.copy ∧
      r'.leak.isSome = leakEnabled c.copy ∧ r'.zero = (if leakEnabled c.copy then some .unchecked else none) ∧
      r'.serial = r.serial ∧ r'.seq = r.seq ∧ r'.faults = r.faults ∧ t.noise.discards = 0 ∧
      (∀ j, j ≠ i → recordAt t j = recordAt s j) ∧ t.store = s.store ∧ t.link = s.link ∧
      t.ports = s.ports.set .line ⟨⟨.ok, [byte i.val] ++ be16 r.seq.toNat ++ [byte r.retest]⟩, .idle⟩ ∧
      t.pending = s.pending

/-- ABORT inside the port's rights with a record ON TEST appends ABORTED with 1 from the line port and 2 from the cell port, decides the
record and ends the context; with none it answers NONE and nothing changes. It enters SETTLE with target READY; with the cell at rest and
vented already, SETTLE is complete at its entry: READY is reached at the same frame end, without a target, with the MODE mark (READY, REACHED)
and a demand of 0 (log entry 12). -/
def Obligations.AbortSettles : Prop :=
  ∀ (p : Port) (s : State), PortOpen p s → (p = .line → s.ports.rights.abort = true) →
    (onTestSlot s = none → exec (.abort p) s = .next (reply p ⟨.none, []⟩ s)) ∧
    ∀ i r, onTestSlot s = some i → recordAt s i = some r → r.faults.length < 6 →
      ∃ t r', exec (.abort p) s = .next t ∧
        (¬Settled s → t.mode.mode = .settle ∧ t.mode.target = some .ready ∧ t.mode.settleTimer = .running 10000) ∧
        (Settled s → t.mode.mode = .ready ∧ t.mode.target = none ∧ t.mode.settleTimer = .stopped ∧
          t.demand = { s.demand with speed := 0, wheel := 0, ramp := none } ∧
          ∀ q, (routeOf s 6).has q = true → mark t 6 q = some (.mode .ready .reached)) ∧
        t.ctx = none ∧ recordAt t i = some r' ∧ r'.state = .decided ∧
        r'.faults = r.faults ++ [⟨.aborted, currentStep s, if p = .line then 1 else 2⟩] ∧
        r'.verdict ≠ some .pass ∧ (∀ j, j ≠ i → recordAt t j = recordAt s j) ∧
        t.ports = s.ports.set p ⟨⟨.ok, [byte i.val]⟩, .idle⟩ ∧ t.store = s.store ∧ t.link = s.link ∧
        t.pending = s.pending

/-- The verdict is FAIL, NO DECISION or PASS by the fault list's classes, the overflow mark and the two outcomes. At a decision the noise
outcome is FAIL with a peak of a used slot above its non-zero limit, INCOMPLETE with none but with a needed coverage mark clear, and PASS
otherwise, and an absent leak outcome is NOT DECIDED. A record that the
decision gives PASS has no fault list entry, a leak outcome of PASS if it has a leak section, and with a noise section the
coverage of every bin with a non-zero limit in a used slot and no peak above it. ABORT from the cell port decides the record ON TEST so, and
the unchecked count goes up by one, to at most 255, exactly when its zero status is UNCHECKED. -/
def Obligations.VerdictDerived : Prop :=
  (∀ r : Record,
    (let fails := (∃ e ∈ r.faults, e.kind.axle = true) ∨ r.overflow = .axle ∨
        (∃ n, r.noise = some n ∧ n.outcome = some .fail) ∨ ∃ l, r.leak = some l ∧ l.outcome = some .fail
    let undecided := (∃ e ∈ r.faults, e.kind.axle = false) ∨ r.overflow = .equipment ∨
        (∃ n, r.noise = some n ∧ n.outcome = some .incomplete) ∨ ∃ l, r.leak = some l ∧ l.outcome = some .notDecided
    (deriveVerdict r = .fail ↔ fails) ∧ (deriveVerdict r = .noDecision ↔ ¬fails ∧ undecided) ∧
      (deriveVerdict r = .pass ↔ ¬fails ∧ ¬undecided))) ∧
  (∀ (c : TestContext) (r : Record),
    (let needed (k : Fin 128) : Prop := order c.copy (k.val / 32) ≠ 0 ∧ limitAt c.copy k.val ≠ 0
    ∃ x y v, decided (some c) r = { r with noise := x, leak := y, verdict := some v, state := .decided } ∧
      v = deriveVerdict (decided (some c) r) ∧
      (r.noise = none → x = none) ∧ (r.leak = none → y = none) ∧
      (∀ n, r.noise = some n → ∃ o, x = some { n with outcome := some o } ∧
        (let above : Prop := ∃ k, needed k ∧ limitAt c.copy k.val < n.peaks[k]
        let missing : Prop := ∃ k, needed k ∧ n.coverage[k.val % 32]?.getD false = false
        (o = .fail ↔ above) ∧ (o = .incomplete ↔ ¬above ∧ missing) ∧ (o = .pass ↔ ¬above ∧ ¬missing))) ∧
      (∀ l, r.leak = some l → y = some { l with outcome := some (l.outcome.getD .notDecided) }) ∧
      (v = .pass → r.faults = [] ∧ (∀ l, y = some l → l.outcome = some .pass) ∧
        ∀ n, x = some n → ∀ k, needed k → n.peaks[k] ≤ limitAt c.copy k.val ∧ n.coverage[k.val % 32]?.getD false = true))) ∧
  ∀ (s : State) (c : TestContext) (i : Fin 16) (r : Record), PortOpen .cell s → s.ctx = some c → onTestSlot s = some i →
    recordAt s i = some r → r.faults.length < 6 →
    ∃ t, exec (.abort .cell) s = .next t ∧
      recordAt t i = some (decided (some c) { r with faults := r.faults ++ [⟨.aborted, c.step, 2⟩] }) ∧
      t.zero.unchecked = if r.zero = some .unchecked then min 255 (s.zero.unchecked + 1) else s.zero.unchecked

/-- VERDICT answers with the oldest decided unreleased record and marks it released, or removes it when it is archived; ARCHIVE
answers RANGE, NONE, MODE or OK and marks the record archived, or removes it when it is released. That the
serial field of the VERDICT reply is filled with zeros is the model's reading (log entry 29). -/
def Obligations.CollectionMarks : Prop :=
  (∀ s : State, PortOpen .line s →
    (oldestSlot s (fun r => r.state == .decided && !r.released) = none →
      exec (.verdict .line) s = .next (reply .line ⟨.none, []⟩ s)) ∧
    ∀ i r, oldestSlot s (fun r => r.state == .decided && !r.released) = some i → recordAt s i = some r →
      ∃ t, exec (.verdict .line) s = .next t ∧ t = (s.withQueue t.queue).withPorts t.ports ∧
        t.queue.nextSeq = s.queue.nextSeq ∧
        recordAt t i = (if r.archived then none else some { r with released := true }) ∧
        (∀ j, j ≠ i → recordAt t j = recordAt s j) ∧
        t.ports = s.ports.set .line
          ⟨⟨.ok, [byte i.val, byte r.serial.length] ++ padded 20 r.serial ++
            [byte r.retest, byte (verdictCode r.verdict), byte (zeroStatusCode r.zero)]⟩, .idle⟩) ∧
  ∀ (slot : Byte) (s : State), PortOpen .cell s →
    (16 ≤ slot.toNat → exec (.archive .cell slot) s = .next (reply .cell ⟨.range, []⟩ s)) ∧
    ∀ i : Fin 16, i.val = slot.toNat →
      (recordAt s i = none → exec (.archive .cell slot) s = .next (reply .cell ⟨.none, []⟩ s)) ∧
      ∀ r, recordAt s i = some r →
        (r.state ≠ .decided → exec (.archive .cell slot) s = .next (reply .cell ⟨.mode, []⟩ s)) ∧
        (r.state = .decided →
          ∃ t, exec (.archive .cell slot) s = .next t ∧ t = (s.withQueue t.queue).withPorts t.ports ∧
            t.queue.nextSeq = s.queue.nextSeq ∧
            recordAt t i = (if r.released then none else some { r with archived := true }) ∧
            (∀ j, j ≠ i → recordAt t j = recordAt s j) ∧
            t.ports = s.ports.set .cell ⟨⟨.ok, []⟩, .idle⟩)

/-- RECORD READ on the cell port: RANGE for a bad slot or section, NONE for an empty slot or an absent section, RANGE for a chunk at or
beyond the section's end, and otherwise the length, the chunk number and at most 56 bytes; nothing else changes. From the line
port a section other than IDENTITY and VERDICT is refused with ACCESS and its event. -/
def Obligations.RecordReadChunks : Prop :=
  (∀ (slot sect chunk : Byte) (s : State), PortOpen .cell s →
    (16 ≤ slot.toNat ∨ 4 < sect.toNat → exec (.recordRead .cell slot sect chunk) s = .next (reply .cell ⟨.range, []⟩ s)) ∧
    ∀ i : Fin 16, i.val = slot.toNat → sect.toNat ≤ 4 →
      (recordAt s i = none → exec (.recordRead .cell slot sect chunk) s = .next (reply .cell ⟨.none, []⟩ s)) ∧
      ∀ r, recordAt s i = some r →
        (sectionBytes r sect.toNat = none →
          exec (.recordRead .cell slot sect chunk) s = .next (reply .cell ⟨.none, []⟩ s)) ∧
        ∀ bs, sectionBytes r sect.toNat = some bs →
          (bs.length ≤ 56 * chunk.toNat →
            exec (.recordRead .cell slot sect chunk) s = .next (reply .cell ⟨.range, []⟩ s)) ∧
          (56 * chunk.toNat < bs.length →
            exec (.recordRead .cell slot sect chunk) s =
              .next (reply .cell ⟨.ok, be16 bs.length ++ [chunk] ++ (bs.drop (56 * chunk.toNat)).take 56⟩ s))) ∧
  ∀ (slot sect chunk : Byte) (s : State), PortOpen .line s → 1 < sect.toNat →
    exec (.recordRead .line slot sect chunk) s =
      .next (reply .line ⟨.access, []⟩ (raise (.access .line .recordRead) s))

/-! ## Recipes and patches -/

/-- A RECIPE WRITE whose run of values fits its section stores them as they are, in or out of range, and makes the slot INVALID, whatever it
held; every other item and recipe stays. A RECIPE READ of a run that fits returns the slot's validity and the stored values. Both are
refused with RANGE, and change nothing, for a recipe id above 11, a target that names no item, a run of 0 or more than 27 items, and a
run that passes the end of its section. -/
def Obligations.RecipesWrittenAndRead : Prop :=
  (∀ (recipe sect index field : Byte) (values : List Word16) (s : State), PortOpen .cell s →
    (let t : ItemRef := ⟨sect.toNat, index.toNat, field.toNat⟩
    (12 ≤ recipe.toNat ∨ itemOffset t = none ∨ values = [] ∨ 27 < values.length ∨
        (∃ o, itemOffset t = some o ∧ sectionEnd t.sect < o + values.length) →
      exec (.recipeWrite .cell recipe sect index field values) s = .next (reply .cell ⟨.range, []⟩ s)) ∧
    ∀ (n : Fin 12) (o : Nat), n.val = recipe.toNat → itemOffset t = some o → 1 ≤ values.length → values.length ≤ 27 →
      o + values.length ≤ sectionEnd t.sect →
      ∃ u, exec (.recipeWrite .cell recipe sect index field values) s = .next u ∧
        u = (s.withStore u.store).withPorts (s.ports.set .cell ⟨⟨.ok, []⟩, .idle⟩) ∧ u.store.patches = s.store.patches ∧
        (u.store.recipes[n]).valid = false ∧ (∀ m : Fin 12, m ≠ n → u.store.recipes[m] = s.store.recipes[m]) ∧
        (∀ k v, values[k]? = some v → item (u.store.recipes[n]).items (o + k) = v.toNat) ∧
        ∀ k, k < o ∨ o + values.length ≤ k → item (u.store.recipes[n]).items k = item (s.store.recipes[n]).items k)) ∧
  ∀ (recipe sect index field count : Byte) (s : State), PortOpen .cell s →
    (let t : ItemRef := ⟨sect.toNat, index.toNat, field.toNat⟩
    (12 ≤ recipe.toNat ∨ itemOffset t = none ∨ count.toNat = 0 ∨ 27 < count.toNat ∨
        (∃ o, itemOffset t = some o ∧ sectionEnd t.sect < o + count.toNat) →
      exec (.recipeRead .cell recipe sect index field count) s = .next (reply .cell ⟨.range, []⟩ s)) ∧
    ∀ (n : Fin 12) (o : Nat), n.val = recipe.toNat → itemOffset t = some o → 1 ≤ count.toNat → count.toNat ≤ 27 →
      o + count.toNat ≤ sectionEnd t.sect →
      exec (.recipeRead .cell recipe sect index field count) s =
        .next (reply .cell
          ⟨.ok, (if (s.store.recipes[n]).valid then 1 else 0) ::
            (List.range count.toNat).flatMap fun k => be16 (item (s.store.recipes[n]).items (o + k))⟩ s))

/-- RECIPE VALIDATE is refused with RANGE, and changes nothing, for a recipe id above 11. Otherwise it runs the checks in their order and stops
at the first that fails: the slot becomes VALID or INVALID by the outcome, the items stay, and a RECIPE mark with the same outcome is
set on each port of its route. A recipe passes exactly when its general items are in range with OIL SHUTDOWN above OIL PREWARN, every field
of every used step is in range, no loop contains the end of an earlier one, and its NOISE and LEAK sections, where they are enabled, are
good. -/
def Obligations.ValidationJudges : Prop :=
  (∀ (recipe : Byte) (s : State), PortOpen .cell s → 12 ≤ recipe.toNat →
    exec (.recipeValidate .cell recipe) s = .next (reply .cell ⟨.range, []⟩ s)) ∧
  (∀ (recipe : Byte) (s : State) (n : Fin 12), PortOpen .cell s → n.val = recipe.toNat →
    ∃ t, exec (.recipeValidate .cell recipe) s = .next t ∧
      t = ((s.withStore t.store).withEvents t.events).withPorts t.ports ∧
      (t.store.recipes[n]).items = (s.store.recipes[n]).items ∧
      (∀ m : Fin 12, m ≠ n → t.store.recipes[m] = s.store.recipes[m]) ∧ t.store.patches = s.store.patches ∧
      (firstFailure (s.store.recipes[n]).items = none →
        (t.store.recipes[n]).valid = true ∧ (t.ports.get .cell).held = ⟨.ok, []⟩ ∧
        ∀ q, (routeOf s 10).has q = true → mark t 10 q = some (.recipe n.val none)) ∧
      ∀ f, firstFailure (s.store.recipes[n]).items = some f →
        (t.store.recipes[n]).valid = false ∧ (t.ports.get .cell).held = ⟨.recipe, itemBytes f.reported⟩ ∧
        ∀ q, (routeOf s 10).has q = true → mark t 10 q = some (.recipe n.val (some f.reported))) ∧
  ∀ r : Items,
    (let field (k f : Nat) : Nat := item r (4 + 12 * k + f)
    let general : Prop := 1 ≤ stepCount r ∧ stepCount r ≤ 24 ∧ 100 ≤ inputTorqueLimit r ∧ inputTorqueLimit r ≤ 10000 ∧
      2330 ≤ oilPrewarn r ∧ oilPrewarn r ≤ 4230 ∧ 2330 ≤ oilShutdown r ∧ oilShutdown r ≤ 4230 ∧ oilPrewarn r < oilShutdown r
    let steps : Prop := ∀ k, k < stepCount r →
      field k 0 ≤ 1 ∧ field k 1 ≤ 1 ∧ inputSpeed r k ≤ 4000 ∧ wheelTorque r k ≤ 30000 ∧ 5 ≤ torqueBand r k ∧
      torqueBand r k ≤ 50 ∧ rampTime r k ≤ 60000 ∧ holdTime r k ≤ 6000 ∧ field k 7 ≤ 1 ∧ field k 8 ≤ 1 ∧ field k 9 ≤ 1 ∧
      (loopTarget r k ≠ 255 → loopTarget r k ≤ k ∧ 1 ≤ loopCount r k ∧ loopCount r k ≤ 15 ∧
        ∀ j, j < k → loopTarget r j ≠ 255 → j < loopTarget r k)
    let noise : Prop := item r 292 = 0 ∨ (item r 292 = 1 ∧ (∀ j, j < 4 → order r j ≤ 255) ∧
      1 ≤ blockRevs r ∧ blockRevs r ≤ 16 ∧ lowBinSpeed r ≤ 4000 ∧ 10 ≤ binWidth r ∧ binWidth r ≤ 500 ∧
      lowBinSpeed r + 16 * binWidth r ≤ 6000 ∧ (∀ i, i < 128 → limitAt r i ≤ 32767) ∧ (∃ j, j < 4 ∧ order r j ≠ 0) ∧
      (∃ i, i < 128 ∧ order r (i / 32) ≠ 0 ∧ limitAt r i ≠ 0) ∧ ∃ k, k < stepCount r ∧ field k 8 = 1)
    let leak : Prop := item r 428 = 0 ∨ (item r 428 = 1 ∧ triggerStep r < stepCount r ∧
      11000 ≤ fillTarget r ∧ fillTarget r ≤ 40000 ∧ 10 ≤ fillTimeout r ∧ fillTimeout r ≤ 600 ∧
      1 ≤ leakSettleTime r ∧ leakSettleTime r ≤ 600 ∧ 1000 ≤ measureTime r ∧ measureTime r ≤ 60000 ∧
      1 ≤ burstLength r ∧ burstLength r ≤ 16 ∧ 1 ≤ rateLimit r ∧ rateLimit r ≤ 65535 ∧
      ∃ k, triggerStep r ≤ k ∧ k < stepCount r ∧ field k 9 = 1)
    firstFailure r = none ↔ general ∧ steps ∧ noise ∧ leak)

/-- PATCH WRITE is refused with RANGE for an entry above 7, an enabled field other than 0 and 1, a recipe id above 11 or a target that names
no item, and then with DUPLICATE for an enabled content that another enabled entry has; otherwise it replaces the entry's whole
content and nothing else. PATCH READ is refused with RANGE for an entry above 7 and otherwise returns the entry's content. -/
def Obligations.PatchesWrittenAndRead : Prop :=
  (∀ (entry enabled recipe sect index field : Byte) (value : Word16) (s : State), PortOpen .cell s →
    (let target : ItemRef := ⟨sect.toNat, index.toNat, field.toNat⟩
    (8 ≤ entry.toNat ∨ 1 < enabled.toNat ∨ 12 ≤ recipe.toNat ∨ itemOffset target = none →
      exec (.patchWrite .cell entry enabled recipe sect index field value) s = .next (reply .cell ⟨.range, []⟩ s)) ∧
    ∀ n : Fin 8, n.val = entry.toNat → enabled.toNat ≤ 1 → recipe.toNat < 12 → itemOffset target ≠ none →
      (let clash := enabled = 1 ∧ ∃ m : Fin 8, m ≠ n ∧ (s.store.patches[m]).enabled = true ∧
        (s.store.patches[m]).recipe = recipe.toNat ∧ (s.store.patches[m]).target = target
      (clash →
        exec (.patchWrite .cell entry enabled recipe sect index field value) s =
          .next (reply .cell ⟨.duplicate, []⟩ s)) ∧
      (¬clash →
        ∃ t, exec (.patchWrite .cell entry enabled recipe sect index field value) s = .next t ∧
          t = (s.withStore t.store).withPorts (s.ports.set .cell ⟨⟨.ok, []⟩, .idle⟩) ∧
          t.store.recipes = s.store.recipes ∧ (∀ m : Fin 8, m ≠ n → t.store.patches[m] = s.store.patches[m]) ∧
          t.store.patches[n] = ⟨enabled == 1, recipe.toNat, target, value.toNat⟩)))) ∧
  ∀ (entry : Byte) (s : State), PortOpen .cell s →
    (8 ≤ entry.toNat → exec (.patchRead .cell entry) s = .next (reply .cell ⟨.range, []⟩ s)) ∧
    ∀ n : Fin 8, n.val = entry.toNat →
      exec (.patchRead .cell entry) s =
        .next (reply .cell
          ⟨.ok, [if (s.store.patches[n]).enabled then 1 else 0, byte (s.store.patches[n]).recipe,
            byte (s.store.patches[n]).target.sect, byte (s.store.patches[n]).target.index,
            byte (s.store.patches[n]).target.field] ++ be16 (s.store.patches[n]).value⟩ s)

/-! ## Ports and events -/

/-- STATUS returns the 20 bytes of its layout, with the outputs as their rules give them: DRIVE ENABLE in READY, RUN, PAUSE and SETTLE with the
guards good, UNCLAMP PERMIT in IDLE with every drive seen at standstill, VENT by the mode, the leak phase or a check in progress, FILL in
the phase FILL outside the modes that hold it closed, DLOCK by the current step in RUN and PAUSE. INTEGRITY LOG READ returns the entry
count with at most five entries of 11 bytes from the first index; a first index above 7 is refused with RANGE, the model's choice (log
entry 18). Both change nothing but the held reply. -/
def Obligations.SnapshotsAnswer : Prop :=
  (∀ (p : Port) (s : State), PortOpen p s →
    (let g := s.mode.guards
    exec (.status p) s =
      .next (reply p
        ⟨.ok, [byte s.mode.mode.code,
          (match s.mode.target with
            | none => 0
            | some .idle => 1
            | some .ready => 2),
          byte s.mode.pauseKind.code, flagByte g.estop, flagByte g.door, flagByte g.clamp1, flagByte g.clamp2,
          flagByte g.clamp3, flagByte g.clamp4, flagByte (driveEnable s), flagByte (unclampPermit s),
          flagByte (ventOutput s), flagByte (fillOutput s), flagByte (dlock s), byte (presentCount s),
          byte s.zero.unchecked, flagByte s.zero.forced, flagByte s.zero.refValid] ++ be16 s.zero.reference⟩ s))) ∧
  (∀ s : State,
    (let m := s.mode.mode
    (driveEnable s = true ↔ (m = .ready ∨ m = .run ∨ m = .pause ∨ m = .settle) ∧ guardsGood s.mode.guards = true) ∧
    (unclampPermit s = true ↔ m = .idle ∧ ∀ d, s.mode.seen.get d = true) ∧
    (ventOutput s = true ↔ (m = .idle ∨ m = .settle ∨ m = .stop ∨ m = .halt) ∨
      (s.leak.phase = .idle ∨ s.leak.phase = .vent ∨ s.leak.phase = .done) ∨ s.zero.check ≠ none) ∧
    (fillOutput s = true ↔ s.leak.phase = .fill ∧ (m = .ready ∨ m = .run ∨ m = .pause)) ∧
    (dlock s = true ↔ (m = .run ∨ m = .pause) ∧ ∃ c, s.ctx = some c ∧ stepField c.copy c.step 7 = 1))) ∧
  ∀ (first : Byte) (s : State), PortOpen .cell s →
    (7 < first.toNat → exec (.integrityLogRead .cell first) s = .next (reply .cell ⟨.range, []⟩ s)) ∧
    (first.toNat ≤ 7 →
      ∃ entries, exec (.integrityLogRead .cell first) s =
          .next (reply .cell ⟨.ok, byte s.zero.log.length :: entries⟩ s) ∧
        entries.length = 11 * min 5 (s.zero.log.length - first.toNat) ∧
        ∀ k e, k < 5 → s.zero.log[first.toNat + k]? = some e → (entries.drop (11 * k)).take 11 = logBytes e)

/-- EVENT takes the mark of the highest priority of its own port: the reply is its source's priority number, the detail's length and
the detail, and that mark alone is cleared; with no mark set for the port it answers NONE. -/
def Obligations.EventTakesFirst : Prop :=
  ∀ (p : Port) (s : State), PortOpen p s →
    ((∀ i, mark s i p = none) → exec (.event p) s = .next (reply p ⟨.none, []⟩ s)) ∧
    ∀ (i : Fin 11) (e : Event), mark s i p = some e → (∀ j, j < i → mark s j p = none) →
      ∃ t, exec (.event p) s = .next t ∧ t = (s.withEvents t.events).withPorts t.ports ∧
        (t.ports.get p).held = ⟨.ok, eventBytes e⟩ ∧ t.events.routes = s.events.routes ∧
        ∀ j q, mark t j q = if j = i ∧ q = p then none else mark s j q

/-- Each raising sets the mark of its source, with its detail, on each port in the source's route, and touches no other mark and
no route. -/
def Obligations.RaisingSetsMarks : Prop :=
  ∀ (e : Event) (s : State) (i : Fin 11) (p : Port),
    mark (raise e s) i p = (if i = e.source ∧ (routeOf s e.source).has p = true then some e else mark s i p) ∧
    (raise e s).events.routes = s.events.routes ∧ raise e s = s.withEvents (raise e s).events

/-- SETTINGS WRITE is refused with MODE outside IDLE and READY or with a record ON TEST, then with RANGE for a field out of range;
otherwise it replaces all settings at once and nothing else. That any byte of line rights is in range, one above 7 too, is the model's
reading (log entry 14). SETTINGS READ, in every mode, returns the settings record and the eleven
routes, and changes nothing else; that bits 3 to 7 of the rights byte are 0 in its reply is the model's choice (log entry 14). -/
def Obligations.SettingsWrittenAndRead : Prop :=
  (∀ (x : SettingsRecord) (s : State), PortOpen .cell s →
    (¬(s.mode.mode = .idle ∨ s.mode.mode = .ready) ∨ (∃ i, OnTest s i) →
      exec (.settingsWrite .cell x) s = .next (reply .cell ⟨.mode, []⟩ s)) ∧
    (s.mode.mode = .idle ∨ s.mode.mode = .ready → (∀ i, ¬OnTest s i) →
      (let good := 10 ≤ x.ventOffset.toNat ∧ x.ventOffset.toNat ≤ 500 ∧ 1 ≤ x.tolerance.toNat ∧ x.tolerance.toNat ≤ 500 ∧
        1 ≤ x.interval.toNat ∧ x.interval.toNat ≤ 16 ∧ x.policy.toNat ≤ 1 ∧ x.classLeak.toNat ≤ 1 ∧
        x.classZero.toNat ≤ 1 ∧ x.classOil.toNat ≤ 1 ∧ x.classSpot.toNat ≤ 1 ∧ x.spotMask.toNat ≤ 1
      (¬good → exec (.settingsWrite .cell x) s = .next (reply .cell ⟨.range, []⟩ s)) ∧
      (good →
        exec (.settingsWrite .cell x) s =
          .next (((s.withZero
            { s.zero with
              ventOffset := x.ventOffset.toNat, tolerance := x.tolerance.toNat, interval := x.interval.toNat
              policy := if x.policy.toNat = 1 then .flag else .halt }).withConv
            { s.conv with
              classes :=
                ⟨if x.classLeak.toNat = 1 then .low else .high, if x.classZero.toNat = 1 then .low else .high,
                  if x.classOil.toNat = 1 then .low else .high, if x.classSpot.toNat = 1 then .low else .high⟩
              spotMasked := x.spotMask.toNat == 1 }).withPorts
            { s.ports with
              cell := ⟨⟨.ok, []⟩, .idle⟩
              rights := ⟨x.lineRights.getLsbD 0, x.lineRights.getLsbD 1, x.lineRights.getLsbD 2⟩ }))))) ∧
  ∀ s : State, PortOpen .cell s →
    exec (.settingsRead .cell) s =
      .next (reply .cell
        ⟨.ok, be16 s.zero.ventOffset ++ be16 s.zero.tolerance ++
          [byte s.zero.interval, byte s.zero.policy.code, byte (s.conv.classes.get .leak).code,
           byte (s.conv.classes.get .zero).code, byte (s.conv.classes.get .oil).code,
           byte (s.conv.classes.get .spot).code, if s.conv.spotMasked then 1 else 0,
           byte ((if s.ports.rights.hold then 1 else 0) + (if s.ports.rights.abort then 2 else 0) +
             (if s.ports.rights.clear then 4 else 0))] ++
          (List.finRange 11).map fun i => byte (routeOf s i).code⟩ s)

/-- ROUTE WRITE is refused with RANGE for a source other than 1 to 11 or a route above 3; otherwise it replaces that source's route,
clears the source's mark on each port that the new route leaves out, and leaves every other route and mark; each port's attention
output follows its marks. -/
def Obligations.RouteReplaced : Prop :=
  ∀ (source route : Byte) (s : State), PortOpen .cell s →
    (source.toNat = 0 ∨ 11 < source.toNat ∨ 3 < route.toNat →
      exec (.routeWrite .cell source route) s = .next (reply .cell ⟨.range, []⟩ s)) ∧
    ∀ (i : Fin 11) (r : Route), i.val + 1 = source.toNat → r.code = route.toNat →
      ∃ t, exec (.routeWrite .cell source route) s = .next t ∧
        t = (s.withEvents t.events).withPorts (s.ports.set .cell ⟨⟨.ok, []⟩, .idle⟩) ∧
        (∀ j, routeOf t j = if j = i then r else routeOf s j) ∧
        (∀ j p, mark t j p = if j = i ∧ r.has p = false then none else mark s j p) ∧
        ∀ p, attention t p = true ↔ ∃ j, (mark t j p).isSome = true

/-- A frame start takes the status byte of its event and the held reply. In that frame the port then sends the status byte, the result code,
the reply length, the reply bytes, and zeros after, bit 7 first, and before the first clock edge DATA-OUT shows the attention output. A
frame end without bits keeps the held reply; a number of
bits that fills no whole byte, fewer than two bytes, a length byte above 60 or too few bytes give FRAME; a code of no command
gives UNKNOWN; nothing else changes in any of these. -/
def Obligations.FramesJudged : Prop :=
  ∀ (p : Port) (s : State),
    (exec (.frameStart p) s =
      .next (s.withPorts (s.ports.set p
        ⟨(s.ports.get p).held, .assembling (statusByte s p) (s.ports.get p).held []⟩))) ∧
    (∀ st r bits, (s.ports.get p).frame = .assembling st r bits →
      sentByte s p 0 = some st ∧ sentByte s p 1 = some (byte r.code.toNat) ∧ sentByte s p 2 = some (byte r.data.length) ∧
      (∀ k b, r.data[k]? = some b → sentByte s p (k + 3) = some b) ∧
      (∀ k, r.data.length ≤ k → sentByte s p (k + 3) = some 0) ∧
      dataOut s p 0 = some (attention s p) ∧
      ∀ k b, sentByte s p k = some b → ∀ j, j < 8 → dataOut s p (8 * k + j + 1) = some (b.getLsbD (7 - j))) ∧
    (PortOpen p s → (s.ports.get p).frame.bits = [] →
      (exec (.frameEnd p []) s = .next (s.withPorts (s.ports.set p ⟨(s.ports.get p).held, .idle⟩))) ∧
      (∀ bits, bits.length % 8 ≠ 0 → exec (.frameEnd p bits) s = .next (reply p ⟨.frame, []⟩ s)) ∧
      (∀ b, exec (.frameEnd p (bitsOfByte b)) s = .next (reply p ⟨.frame, []⟩ s)) ∧
      (∀ code n rest, 60 < BitVec.toNat n ∨ rest.length < BitVec.toNat n →
        exec (.frameEnd p (bitsOfBytes (code :: n :: rest))) s = .next (reply p ⟨.frame, []⟩ s)) ∧
      ∀ code, (∀ c, Command.code c ≠ code) →
        exec (.unknownCommand p code) s = .next (reply p ⟨.unknown, []⟩ s) ∧
        ∀ n rest, BitVec.toNat n ≤ 60 → BitVec.toNat n ≤ rest.length →
          exec (.frameEnd p (bitsOfBytes (code :: n :: rest))) s = .next (reply p ⟨.unknown, []⟩ s))

/-- The frame end of a well-formed frame, with any bytes after its payload, runs exactly the command that its code and payload spell; a
payload that spells none is refused with RANGE, and a code outside the port's rights with ACCESS and its event. Which payloads of
INDUCT, RECIPE WRITE and MODE spell none is the model's reading (log entry 7). -/
def Obligations.FrameEndRunsRequest : Prop :=
  ∀ (p : Port) (c : Command) (payload extra : List Byte) (s : State), PortOpen p s → (s.ports.get p).frame.bits = [] →
    payload.length ≤ 60 →
    (let frame := bitsOfBytes ([c.code, BitVec.ofNat 8 payload.length] ++ payload ++ extra)
    (allowed s.ports.rights p c = false →
      exec (.frameEnd p frame) s = .next (reply p ⟨.access, []⟩ (raise (.access p c) s))) ∧
    (allowed s.ports.rights p c = true →
      (decodeRequest p c payload = none → exec (.frameEnd p frame) s = .next (reply p ⟨.range, []⟩ s)) ∧
      ∀ i, decodeRequest p c payload = some i → exec (.frameEnd p frame) s = exec i s))

/-! ## Invariants and whole-machine rules -/

/-- Right after reset, with any guard inputs, the invariants below hold. That State.reset is that state with the six inputs low is the
model's choice (log entry 1). -/
def Obligations.InvariantsAtReset : Prop :=
  ∀ g : GuardLevels, MarksRouted (State.resetWith g) ∧ PatchesDistinct (State.resetWith g) ∧
    OneTest (State.resetWith g) ∧ MonitorsJudged (State.resetWith g) ∧ DwellAtRest (State.resetWith g) ∧
    State.reset = State.resetWith ⟨false, false, false, false, false, false⟩

/-- A port has a pending mark only for a source routed to it: every step keeps it. The attention output of a port is on exactly while
the port has a mark, and bit 7 of its status byte shows the same. -/
def Obligations.MarksStayRouted : Prop :=
  (∀ s t : State, MarksRouted s → step s = .next t → MarksRouted t) ∧
  ∀ (s : State) (p : Port), (attention s p = true ↔ ∃ i, (mark s i p).isSome = true) ∧
    (statusByte s p).getLsbD 7 = attention s p

/-- No two enabled patch entries have the same recipe id and target: every step keeps it. -/
def Obligations.PatchesStayDistinct : Prop :=
  ∀ s t : State, PatchesDistinct s → step s = .next t → PatchesDistinct t

/-- At most one record is ON TEST, exactly while a test context exists, and only in RUN and PAUSE: every step keeps it. -/
def Obligations.OneTestStays : Prop :=
  ∀ s t : State, OneTest s → step s = .next t → OneTest t

/-- A filter timer runs exactly while its monitor is active, its latch is CLEAR and its condition holds: every step keeps it. -/
def Obligations.MonitorsStayJudged : Prop :=
  ∀ s t : State, MonitorsJudged s → step s = .next t → MonitorsJudged t

/-- The demand direction changes only while all three held speeds are at rest, but for a device reset; and a running dwell timer keeps
standing in a DWELL at rest. -/
def Obligations.DirectionTurnsAtRest : Prop :=
  ∀ s t : State, DwellAtRest s → step s = .next t →
    DwellAtRest t ∧
      (t.demand.direction ≠ s.demand.direction → (∃ c rest, s.pending = c :: rest ∧ isReset c = true) ∨ atRest t = true)

/-- IDLE is entered from another mode only with all held speeds at rest and the circuit vented, but for a device reset. -/
def Obligations.IdleOnlyAtRest : Prop :=
  ∀ s t : State, step s = .next t → s.mode.mode ≠ .idle → t.mode.mode = .idle →
    (∃ c rest, s.pending = c :: rest ∧ isReset c = true) ∨ Settled t

/-- A decided record keeps its verdict, its fault list and its sections: every step leaves it as it is but for its released, archived and
zero status fields, or removes it. -/
def Obligations.DecidedStays : Prop :=
  ∀ (s t : State) (i : Fin 16) (r : Record), step s = .next t → recordAt s i = some r → r.state = .decided →
    recordAt t i = none ∨
      ∃ released archived zero, recordAt t i = some { r with released := released, archived := archived, zero := zero }
end

