-- ==== Sys2Proof/Laws/State.lean ====
section
/-! SUPPORT. What each setter of State writes and what it leaves unchanged: one lemma for each setter. -/

namespace Sys2Proof.Machine

@[simp] theorem State.withMode_mode (s : State) (x : ModeController) : (s.withMode x).mode = x := rfl
@[simp] theorem State.withMode_store (s : State) (x : ModeController) : (s.withMode x).store = s.store := rfl
@[simp] theorem State.withMode_demand (s : State) (x : ModeController) : (s.withMode x).demand = s.demand := rfl
@[simp] theorem State.withMode_ctx (s : State) (x : ModeController) : (s.withMode x).ctx = s.ctx := rfl
@[simp] theorem State.withMode_link (s : State) (x : ModeController) : (s.withMode x).link = s.link := rfl
@[simp] theorem State.withMode_sup (s : State) (x : ModeController) : (s.withMode x).sup = s.sup := rfl
@[simp] theorem State.withMode_noise (s : State) (x : ModeController) : (s.withMode x).noise = s.noise := rfl
@[simp] theorem State.withMode_leak (s : State) (x : ModeController) : (s.withMode x).leak = s.leak := rfl
@[simp] theorem State.withMode_zero (s : State) (x : ModeController) : (s.withMode x).zero = s.zero := rfl
@[simp] theorem State.withMode_conv (s : State) (x : ModeController) : (s.withMode x).conv = s.conv := rfl
@[simp] theorem State.withMode_queue (s : State) (x : ModeController) : (s.withMode x).queue = s.queue := rfl
@[simp] theorem State.withMode_ports (s : State) (x : ModeController) : (s.withMode x).ports = s.ports := rfl
@[simp] theorem State.withMode_events (s : State) (x : ModeController) : (s.withMode x).events = s.events := rfl
@[simp] theorem State.withMode_ticks (s : State) (x : ModeController) : (s.withMode x).ticks = s.ticks := rfl
@[simp] theorem State.withMode_orders (s : State) (x : ModeController) : (s.withMode x).orders = s.orders := rfl
@[simp] theorem State.withMode_pending (s : State) (x : ModeController) : (s.withMode x).pending = s.pending := rfl

@[simp] theorem State.withStore_mode (s : State) (x : RecipeStore) : (s.withStore x).mode = s.mode := rfl
@[simp] theorem State.withStore_store (s : State) (x : RecipeStore) : (s.withStore x).store = x := rfl
@[simp] theorem State.withStore_demand (s : State) (x : RecipeStore) : (s.withStore x).demand = s.demand := rfl
@[simp] theorem State.withStore_ctx (s : State) (x : RecipeStore) : (s.withStore x).ctx = s.ctx := rfl
@[simp] theorem State.withStore_link (s : State) (x : RecipeStore) : (s.withStore x).link = s.link := rfl
@[simp] theorem State.withStore_sup (s : State) (x : RecipeStore) : (s.withStore x).sup = s.sup := rfl
@[simp] theorem State.withStore_noise (s : State) (x : RecipeStore) : (s.withStore x).noise = s.noise := rfl
@[simp] theorem State.withStore_leak (s : State) (x : RecipeStore) : (s.withStore x).leak = s.leak := rfl
@[simp] theorem State.withStore_zero (s : State) (x : RecipeStore) : (s.withStore x).zero = s.zero := rfl
@[simp] theorem State.withStore_conv (s : State) (x : RecipeStore) : (s.withStore x).conv = s.conv := rfl
@[simp] theorem State.withStore_queue (s : State) (x : RecipeStore) : (s.withStore x).queue = s.queue := rfl
@[simp] theorem State.withStore_ports (s : State) (x : RecipeStore) : (s.withStore x).ports = s.ports := rfl
@[simp] theorem State.withStore_events (s : State) (x : RecipeStore) : (s.withStore x).events = s.events := rfl
@[simp] theorem State.withStore_ticks (s : State) (x : RecipeStore) : (s.withStore x).ticks = s.ticks := rfl
@[simp] theorem State.withStore_orders (s : State) (x : RecipeStore) : (s.withStore x).orders = s.orders := rfl
@[simp] theorem State.withStore_pending (s : State) (x : RecipeStore) : (s.withStore x).pending = s.pending := rfl

@[simp] theorem State.withDemand_mode (s : State) (x : Demand) : (s.withDemand x).mode = s.mode := rfl
@[simp] theorem State.withDemand_store (s : State) (x : Demand) : (s.withDemand x).store = s.store := rfl
@[simp] theorem State.withDemand_demand (s : State) (x : Demand) : (s.withDemand x).demand = x := rfl
@[simp] theorem State.withDemand_ctx (s : State) (x : Demand) : (s.withDemand x).ctx = s.ctx := rfl
@[simp] theorem State.withDemand_link (s : State) (x : Demand) : (s.withDemand x).link = s.link := rfl
@[simp] theorem State.withDemand_sup (s : State) (x : Demand) : (s.withDemand x).sup = s.sup := rfl
@[simp] theorem State.withDemand_noise (s : State) (x : Demand) : (s.withDemand x).noise = s.noise := rfl
@[simp] theorem State.withDemand_leak (s : State) (x : Demand) : (s.withDemand x).leak = s.leak := rfl
@[simp] theorem State.withDemand_zero (s : State) (x : Demand) : (s.withDemand x).zero = s.zero := rfl
@[simp] theorem State.withDemand_conv (s : State) (x : Demand) : (s.withDemand x).conv = s.conv := rfl
@[simp] theorem State.withDemand_queue (s : State) (x : Demand) : (s.withDemand x).queue = s.queue := rfl
@[simp] theorem State.withDemand_ports (s : State) (x : Demand) : (s.withDemand x).ports = s.ports := rfl
@[simp] theorem State.withDemand_events (s : State) (x : Demand) : (s.withDemand x).events = s.events := rfl
@[simp] theorem State.withDemand_ticks (s : State) (x : Demand) : (s.withDemand x).ticks = s.ticks := rfl
@[simp] theorem State.withDemand_orders (s : State) (x : Demand) : (s.withDemand x).orders = s.orders := rfl
@[simp] theorem State.withDemand_pending (s : State) (x : Demand) : (s.withDemand x).pending = s.pending := rfl

@[simp] theorem State.withCtx_mode (s : State) (x : Option TestContext) : (s.withCtx x).mode = s.mode := rfl
@[simp] theorem State.withCtx_store (s : State) (x : Option TestContext) : (s.withCtx x).store = s.store := rfl
@[simp] theorem State.withCtx_demand (s : State) (x : Option TestContext) : (s.withCtx x).demand = s.demand := rfl
@[simp] theorem State.withCtx_ctx (s : State) (x : Option TestContext) : (s.withCtx x).ctx = x := rfl
@[simp] theorem State.withCtx_link (s : State) (x : Option TestContext) : (s.withCtx x).link = s.link := rfl
@[simp] theorem State.withCtx_sup (s : State) (x : Option TestContext) : (s.withCtx x).sup = s.sup := rfl
@[simp] theorem State.withCtx_noise (s : State) (x : Option TestContext) : (s.withCtx x).noise = s.noise := rfl
@[simp] theorem State.withCtx_leak (s : State) (x : Option TestContext) : (s.withCtx x).leak = s.leak := rfl
@[simp] theorem State.withCtx_zero (s : State) (x : Option TestContext) : (s.withCtx x).zero = s.zero := rfl
@[simp] theorem State.withCtx_conv (s : State) (x : Option TestContext) : (s.withCtx x).conv = s.conv := rfl
@[simp] theorem State.withCtx_queue (s : State) (x : Option TestContext) : (s.withCtx x).queue = s.queue := rfl
@[simp] theorem State.withCtx_ports (s : State) (x : Option TestContext) : (s.withCtx x).ports = s.ports := rfl
@[simp] theorem State.withCtx_events (s : State) (x : Option TestContext) : (s.withCtx x).events = s.events := rfl
@[simp] theorem State.withCtx_ticks (s : State) (x : Option TestContext) : (s.withCtx x).ticks = s.ticks := rfl
@[simp] theorem State.withCtx_orders (s : State) (x : Option TestContext) : (s.withCtx x).orders = s.orders := rfl
@[simp] theorem State.withCtx_pending (s : State) (x : Option TestContext) : (s.withCtx x).pending = s.pending := rfl

@[simp] theorem State.withLink_mode (s : State) (x : DriveLink) : (s.withLink x).mode = s.mode := rfl
@[simp] theorem State.withLink_store (s : State) (x : DriveLink) : (s.withLink x).store = s.store := rfl
@[simp] theorem State.withLink_demand (s : State) (x : DriveLink) : (s.withLink x).demand = s.demand := rfl
@[simp] theorem State.withLink_ctx (s : State) (x : DriveLink) : (s.withLink x).ctx = s.ctx := rfl
@[simp] theorem State.withLink_link (s : State) (x : DriveLink) : (s.withLink x).link = x := rfl
@[simp] theorem State.withLink_sup (s : State) (x : DriveLink) : (s.withLink x).sup = s.sup := rfl
@[simp] theorem State.withLink_noise (s : State) (x : DriveLink) : (s.withLink x).noise = s.noise := rfl
@[simp] theorem State.withLink_leak (s : State) (x : DriveLink) : (s.withLink x).leak = s.leak := rfl
@[simp] theorem State.withLink_zero (s : State) (x : DriveLink) : (s.withLink x).zero = s.zero := rfl
@[simp] theorem State.withLink_conv (s : State) (x : DriveLink) : (s.withLink x).conv = s.conv := rfl
@[simp] theorem State.withLink_queue (s : State) (x : DriveLink) : (s.withLink x).queue = s.queue := rfl
@[simp] theorem State.withLink_ports (s : State) (x : DriveLink) : (s.withLink x).ports = s.ports := rfl
@[simp] theorem State.withLink_events (s : State) (x : DriveLink) : (s.withLink x).events = s.events := rfl
@[simp] theorem State.withLink_ticks (s : State) (x : DriveLink) : (s.withLink x).ticks = s.ticks := rfl
@[simp] theorem State.withLink_orders (s : State) (x : DriveLink) : (s.withLink x).orders = s.orders := rfl
@[simp] theorem State.withLink_pending (s : State) (x : DriveLink) : (s.withLink x).pending = s.pending := rfl

@[simp] theorem State.withSup_mode (s : State) (x : Supervision) : (s.withSup x).mode = s.mode := rfl
@[simp] theorem State.withSup_store (s : State) (x : Supervision) : (s.withSup x).store = s.store := rfl
@[simp] theorem State.withSup_demand (s : State) (x : Supervision) : (s.withSup x).demand = s.demand := rfl
@[simp] theorem State.withSup_ctx (s : State) (x : Supervision) : (s.withSup x).ctx = s.ctx := rfl
@[simp] theorem State.withSup_link (s : State) (x : Supervision) : (s.withSup x).link = s.link := rfl
@[simp] theorem State.withSup_sup (s : State) (x : Supervision) : (s.withSup x).sup = x := rfl
@[simp] theorem State.withSup_noise (s : State) (x : Supervision) : (s.withSup x).noise = s.noise := rfl
@[simp] theorem State.withSup_leak (s : State) (x : Supervision) : (s.withSup x).leak = s.leak := rfl
@[simp] theorem State.withSup_zero (s : State) (x : Supervision) : (s.withSup x).zero = s.zero := rfl
@[simp] theorem State.withSup_conv (s : State) (x : Supervision) : (s.withSup x).conv = s.conv := rfl
@[simp] theorem State.withSup_queue (s : State) (x : Supervision) : (s.withSup x).queue = s.queue := rfl
@[simp] theorem State.withSup_ports (s : State) (x : Supervision) : (s.withSup x).ports = s.ports := rfl
@[simp] theorem State.withSup_events (s : State) (x : Supervision) : (s.withSup x).events = s.events := rfl
@[simp] theorem State.withSup_ticks (s : State) (x : Supervision) : (s.withSup x).ticks = s.ticks := rfl
@[simp] theorem State.withSup_orders (s : State) (x : Supervision) : (s.withSup x).orders = s.orders := rfl
@[simp] theorem State.withSup_pending (s : State) (x : Supervision) : (s.withSup x).pending = s.pending := rfl

@[simp] theorem State.withNoise_mode (s : State) (x : OrderAnalyser) : (s.withNoise x).mode = s.mode := rfl
@[simp] theorem State.withNoise_store (s : State) (x : OrderAnalyser) : (s.withNoise x).store = s.store := rfl
@[simp] theorem State.withNoise_demand (s : State) (x : OrderAnalyser) : (s.withNoise x).demand = s.demand := rfl
@[simp] theorem State.withNoise_ctx (s : State) (x : OrderAnalyser) : (s.withNoise x).ctx = s.ctx := rfl
@[simp] theorem State.withNoise_link (s : State) (x : OrderAnalyser) : (s.withNoise x).link = s.link := rfl
@[simp] theorem State.withNoise_sup (s : State) (x : OrderAnalyser) : (s.withNoise x).sup = s.sup := rfl
@[simp] theorem State.withNoise_noise (s : State) (x : OrderAnalyser) : (s.withNoise x).noise = x := rfl
@[simp] theorem State.withNoise_leak (s : State) (x : OrderAnalyser) : (s.withNoise x).leak = s.leak := rfl
@[simp] theorem State.withNoise_zero (s : State) (x : OrderAnalyser) : (s.withNoise x).zero = s.zero := rfl
@[simp] theorem State.withNoise_conv (s : State) (x : OrderAnalyser) : (s.withNoise x).conv = s.conv := rfl
@[simp] theorem State.withNoise_queue (s : State) (x : OrderAnalyser) : (s.withNoise x).queue = s.queue := rfl
@[simp] theorem State.withNoise_ports (s : State) (x : OrderAnalyser) : (s.withNoise x).ports = s.ports := rfl
@[simp] theorem State.withNoise_events (s : State) (x : OrderAnalyser) : (s.withNoise x).events = s.events := rfl
@[simp] theorem State.withNoise_ticks (s : State) (x : OrderAnalyser) : (s.withNoise x).ticks = s.ticks := rfl
@[simp] theorem State.withNoise_orders (s : State) (x : OrderAnalyser) : (s.withNoise x).orders = s.orders := rfl
@[simp] theorem State.withNoise_pending (s : State) (x : OrderAnalyser) : (s.withNoise x).pending = s.pending := rfl

@[simp] theorem State.withLeak_mode (s : State) (x : LeakController) : (s.withLeak x).mode = s.mode := rfl
@[simp] theorem State.withLeak_store (s : State) (x : LeakController) : (s.withLeak x).store = s.store := rfl
@[simp] theorem State.withLeak_demand (s : State) (x : LeakController) : (s.withLeak x).demand = s.demand := rfl
@[simp] theorem State.withLeak_ctx (s : State) (x : LeakController) : (s.withLeak x).ctx = s.ctx := rfl
@[simp] theorem State.withLeak_link (s : State) (x : LeakController) : (s.withLeak x).link = s.link := rfl
@[simp] theorem State.withLeak_sup (s : State) (x : LeakController) : (s.withLeak x).sup = s.sup := rfl
@[simp] theorem State.withLeak_noise (s : State) (x : LeakController) : (s.withLeak x).noise = s.noise := rfl
@[simp] theorem State.withLeak_leak (s : State) (x : LeakController) : (s.withLeak x).leak = x := rfl
@[simp] theorem State.withLeak_zero (s : State) (x : LeakController) : (s.withLeak x).zero = s.zero := rfl
@[simp] theorem State.withLeak_conv (s : State) (x : LeakController) : (s.withLeak x).conv = s.conv := rfl
@[simp] theorem State.withLeak_queue (s : State) (x : LeakController) : (s.withLeak x).queue = s.queue := rfl
@[simp] theorem State.withLeak_ports (s : State) (x : LeakController) : (s.withLeak x).ports = s.ports := rfl
@[simp] theorem State.withLeak_events (s : State) (x : LeakController) : (s.withLeak x).events = s.events := rfl
@[simp] theorem State.withLeak_ticks (s : State) (x : LeakController) : (s.withLeak x).ticks = s.ticks := rfl
@[simp] theorem State.withLeak_orders (s : State) (x : LeakController) : (s.withLeak x).orders = s.orders := rfl
@[simp] theorem State.withLeak_pending (s : State) (x : LeakController) : (s.withLeak x).pending = s.pending := rfl

@[simp] theorem State.withZero_mode (s : State) (x : ZeroCheck) : (s.withZero x).mode = s.mode := rfl
@[simp] theorem State.withZero_store (s : State) (x : ZeroCheck) : (s.withZero x).store = s.store := rfl
@[simp] theorem State.withZero_demand (s : State) (x : ZeroCheck) : (s.withZero x).demand = s.demand := rfl
@[simp] theorem State.withZero_ctx (s : State) (x : ZeroCheck) : (s.withZero x).ctx = s.ctx := rfl
@[simp] theorem State.withZero_link (s : State) (x : ZeroCheck) : (s.withZero x).link = s.link := rfl
@[simp] theorem State.withZero_sup (s : State) (x : ZeroCheck) : (s.withZero x).sup = s.sup := rfl
@[simp] theorem State.withZero_noise (s : State) (x : ZeroCheck) : (s.withZero x).noise = s.noise := rfl
@[simp] theorem State.withZero_leak (s : State) (x : ZeroCheck) : (s.withZero x).leak = s.leak := rfl
@[simp] theorem State.withZero_zero (s : State) (x : ZeroCheck) : (s.withZero x).zero = x := rfl
@[simp] theorem State.withZero_conv (s : State) (x : ZeroCheck) : (s.withZero x).conv = s.conv := rfl
@[simp] theorem State.withZero_queue (s : State) (x : ZeroCheck) : (s.withZero x).queue = s.queue := rfl
@[simp] theorem State.withZero_ports (s : State) (x : ZeroCheck) : (s.withZero x).ports = s.ports := rfl
@[simp] theorem State.withZero_events (s : State) (x : ZeroCheck) : (s.withZero x).events = s.events := rfl
@[simp] theorem State.withZero_ticks (s : State) (x : ZeroCheck) : (s.withZero x).ticks = s.ticks := rfl
@[simp] theorem State.withZero_orders (s : State) (x : ZeroCheck) : (s.withZero x).orders = s.orders := rfl
@[simp] theorem State.withZero_pending (s : State) (x : ZeroCheck) : (s.withZero x).pending = s.pending := rfl

@[simp] theorem State.withConv_mode (s : State) (x : Arbiter) : (s.withConv x).mode = s.mode := rfl
@[simp] theorem State.withConv_store (s : State) (x : Arbiter) : (s.withConv x).store = s.store := rfl
@[simp] theorem State.withConv_demand (s : State) (x : Arbiter) : (s.withConv x).demand = s.demand := rfl
@[simp] theorem State.withConv_ctx (s : State) (x : Arbiter) : (s.withConv x).ctx = s.ctx := rfl
@[simp] theorem State.withConv_link (s : State) (x : Arbiter) : (s.withConv x).link = s.link := rfl
@[simp] theorem State.withConv_sup (s : State) (x : Arbiter) : (s.withConv x).sup = s.sup := rfl
@[simp] theorem State.withConv_noise (s : State) (x : Arbiter) : (s.withConv x).noise = s.noise := rfl
@[simp] theorem State.withConv_leak (s : State) (x : Arbiter) : (s.withConv x).leak = s.leak := rfl
@[simp] theorem State.withConv_zero (s : State) (x : Arbiter) : (s.withConv x).zero = s.zero := rfl
@[simp] theorem State.withConv_conv (s : State) (x : Arbiter) : (s.withConv x).conv = x := rfl
@[simp] theorem State.withConv_queue (s : State) (x : Arbiter) : (s.withConv x).queue = s.queue := rfl
@[simp] theorem State.withConv_ports (s : State) (x : Arbiter) : (s.withConv x).ports = s.ports := rfl
@[simp] theorem State.withConv_events (s : State) (x : Arbiter) : (s.withConv x).events = s.events := rfl
@[simp] theorem State.withConv_ticks (s : State) (x : Arbiter) : (s.withConv x).ticks = s.ticks := rfl
@[simp] theorem State.withConv_orders (s : State) (x : Arbiter) : (s.withConv x).orders = s.orders := rfl
@[simp] theorem State.withConv_pending (s : State) (x : Arbiter) : (s.withConv x).pending = s.pending := rfl

@[simp] theorem State.withQueue_mode (s : State) (x : RecordQueue) : (s.withQueue x).mode = s.mode := rfl
@[simp] theorem State.withQueue_store (s : State) (x : RecordQueue) : (s.withQueue x).store = s.store := rfl
@[simp] theorem State.withQueue_demand (s : State) (x : RecordQueue) : (s.withQueue x).demand = s.demand := rfl
@[simp] theorem State.withQueue_ctx (s : State) (x : RecordQueue) : (s.withQueue x).ctx = s.ctx := rfl
@[simp] theorem State.withQueue_link (s : State) (x : RecordQueue) : (s.withQueue x).link = s.link := rfl
@[simp] theorem State.withQueue_sup (s : State) (x : RecordQueue) : (s.withQueue x).sup = s.sup := rfl
@[simp] theorem State.withQueue_noise (s : State) (x : RecordQueue) : (s.withQueue x).noise = s.noise := rfl
@[simp] theorem State.withQueue_leak (s : State) (x : RecordQueue) : (s.withQueue x).leak = s.leak := rfl
@[simp] theorem State.withQueue_zero (s : State) (x : RecordQueue) : (s.withQueue x).zero = s.zero := rfl
@[simp] theorem State.withQueue_conv (s : State) (x : RecordQueue) : (s.withQueue x).conv = s.conv := rfl
@[simp] theorem State.withQueue_queue (s : State) (x : RecordQueue) : (s.withQueue x).queue = x := rfl
@[simp] theorem State.withQueue_ports (s : State) (x : RecordQueue) : (s.withQueue x).ports = s.ports := rfl
@[simp] theorem State.withQueue_events (s : State) (x : RecordQueue) : (s.withQueue x).events = s.events := rfl
@[simp] theorem State.withQueue_ticks (s : State) (x : RecordQueue) : (s.withQueue x).ticks = s.ticks := rfl
@[simp] theorem State.withQueue_orders (s : State) (x : RecordQueue) : (s.withQueue x).orders = s.orders := rfl
@[simp] theorem State.withQueue_pending (s : State) (x : RecordQueue) : (s.withQueue x).pending = s.pending := rfl

@[simp] theorem State.withPorts_mode (s : State) (x : Ports) : (s.withPorts x).mode = s.mode := rfl
@[simp] theorem State.withPorts_store (s : State) (x : Ports) : (s.withPorts x).store = s.store := rfl
@[simp] theorem State.withPorts_demand (s : State) (x : Ports) : (s.withPorts x).demand = s.demand := rfl
@[simp] theorem State.withPorts_ctx (s : State) (x : Ports) : (s.withPorts x).ctx = s.ctx := rfl
@[simp] theorem State.withPorts_link (s : State) (x : Ports) : (s.withPorts x).link = s.link := rfl
@[simp] theorem State.withPorts_sup (s : State) (x : Ports) : (s.withPorts x).sup = s.sup := rfl
@[simp] theorem State.withPorts_noise (s : State) (x : Ports) : (s.withPorts x).noise = s.noise := rfl
@[simp] theorem State.withPorts_leak (s : State) (x : Ports) : (s.withPorts x).leak = s.leak := rfl
@[simp] theorem State.withPorts_zero (s : State) (x : Ports) : (s.withPorts x).zero = s.zero := rfl
@[simp] theorem State.withPorts_conv (s : State) (x : Ports) : (s.withPorts x).conv = s.conv := rfl
@[simp] theorem State.withPorts_queue (s : State) (x : Ports) : (s.withPorts x).queue = s.queue := rfl
@[simp] theorem State.withPorts_ports (s : State) (x : Ports) : (s.withPorts x).ports = x := rfl
@[simp] theorem State.withPorts_events (s : State) (x : Ports) : (s.withPorts x).events = s.events := rfl
@[simp] theorem State.withPorts_ticks (s : State) (x : Ports) : (s.withPorts x).ticks = s.ticks := rfl
@[simp] theorem State.withPorts_orders (s : State) (x : Ports) : (s.withPorts x).orders = s.orders := rfl
@[simp] theorem State.withPorts_pending (s : State) (x : Ports) : (s.withPorts x).pending = s.pending := rfl

@[simp] theorem State.withEvents_mode (s : State) (x : EventUnit) : (s.withEvents x).mode = s.mode := rfl
@[simp] theorem State.withEvents_store (s : State) (x : EventUnit) : (s.withEvents x).store = s.store := rfl
@[simp] theorem State.withEvents_demand (s : State) (x : EventUnit) : (s.withEvents x).demand = s.demand := rfl
@[simp] theorem State.withEvents_ctx (s : State) (x : EventUnit) : (s.withEvents x).ctx = s.ctx := rfl
@[simp] theorem State.withEvents_link (s : State) (x : EventUnit) : (s.withEvents x).link = s.link := rfl
@[simp] theorem State.withEvents_sup (s : State) (x : EventUnit) : (s.withEvents x).sup = s.sup := rfl
@[simp] theorem State.withEvents_noise (s : State) (x : EventUnit) : (s.withEvents x).noise = s.noise := rfl
@[simp] theorem State.withEvents_leak (s : State) (x : EventUnit) : (s.withEvents x).leak = s.leak := rfl
@[simp] theorem State.withEvents_zero (s : State) (x : EventUnit) : (s.withEvents x).zero = s.zero := rfl
@[simp] theorem State.withEvents_conv (s : State) (x : EventUnit) : (s.withEvents x).conv = s.conv := rfl
@[simp] theorem State.withEvents_queue (s : State) (x : EventUnit) : (s.withEvents x).queue = s.queue := rfl
@[simp] theorem State.withEvents_ports (s : State) (x : EventUnit) : (s.withEvents x).ports = s.ports := rfl
@[simp] theorem State.withEvents_events (s : State) (x : EventUnit) : (s.withEvents x).events = x := rfl
@[simp] theorem State.withEvents_ticks (s : State) (x : EventUnit) : (s.withEvents x).ticks = s.ticks := rfl
@[simp] theorem State.withEvents_orders (s : State) (x : EventUnit) : (s.withEvents x).orders = s.orders := rfl
@[simp] theorem State.withEvents_pending (s : State) (x : EventUnit) : (s.withEvents x).pending = s.pending := rfl

@[simp] theorem State.withTicks_mode (s : State) (x : Stamp) : (s.withTicks x).mode = s.mode := rfl
@[simp] theorem State.withTicks_store (s : State) (x : Stamp) : (s.withTicks x).store = s.store := rfl
@[simp] theorem State.withTicks_demand (s : State) (x : Stamp) : (s.withTicks x).demand = s.demand := rfl
@[simp] theorem State.withTicks_ctx (s : State) (x : Stamp) : (s.withTicks x).ctx = s.ctx := rfl
@[simp] theorem State.withTicks_link (s : State) (x : Stamp) : (s.withTicks x).link = s.link := rfl
@[simp] theorem State.withTicks_sup (s : State) (x : Stamp) : (s.withTicks x).sup = s.sup := rfl
@[simp] theorem State.withTicks_noise (s : State) (x : Stamp) : (s.withTicks x).noise = s.noise := rfl
@[simp] theorem State.withTicks_leak (s : State) (x : Stamp) : (s.withTicks x).leak = s.leak := rfl
@[simp] theorem State.withTicks_zero (s : State) (x : Stamp) : (s.withTicks x).zero = s.zero := rfl
@[simp] theorem State.withTicks_conv (s : State) (x : Stamp) : (s.withTicks x).conv = s.conv := rfl
@[simp] theorem State.withTicks_queue (s : State) (x : Stamp) : (s.withTicks x).queue = s.queue := rfl
@[simp] theorem State.withTicks_ports (s : State) (x : Stamp) : (s.withTicks x).ports = s.ports := rfl
@[simp] theorem State.withTicks_events (s : State) (x : Stamp) : (s.withTicks x).events = s.events := rfl
@[simp] theorem State.withTicks_ticks (s : State) (x : Stamp) : (s.withTicks x).ticks = x := rfl
@[simp] theorem State.withTicks_orders (s : State) (x : Stamp) : (s.withTicks x).orders = s.orders := rfl
@[simp] theorem State.withTicks_pending (s : State) (x : Stamp) : (s.withTicks x).pending = s.pending := rfl

@[simp] theorem State.withOrders_mode (s : State) (x : Nat) : (s.withOrders x).mode = s.mode := rfl
@[simp] theorem State.withOrders_store (s : State) (x : Nat) : (s.withOrders x).store = s.store := rfl
@[simp] theorem State.withOrders_demand (s : State) (x : Nat) : (s.withOrders x).demand = s.demand := rfl
@[simp] theorem State.withOrders_ctx (s : State) (x : Nat) : (s.withOrders x).ctx = s.ctx := rfl
@[simp] theorem State.withOrders_link (s : State) (x : Nat) : (s.withOrders x).link = s.link := rfl
@[simp] theorem State.withOrders_sup (s : State) (x : Nat) : (s.withOrders x).sup = s.sup := rfl
@[simp] theorem State.withOrders_noise (s : State) (x : Nat) : (s.withOrders x).noise = s.noise := rfl
@[simp] theorem State.withOrders_leak (s : State) (x : Nat) : (s.withOrders x).leak = s.leak := rfl
@[simp] theorem State.withOrders_zero (s : State) (x : Nat) : (s.withOrders x).zero = s.zero := rfl
@[simp] theorem State.withOrders_conv (s : State) (x : Nat) : (s.withOrders x).conv = s.conv := rfl
@[simp] theorem State.withOrders_queue (s : State) (x : Nat) : (s.withOrders x).queue = s.queue := rfl
@[simp] theorem State.withOrders_ports (s : State) (x : Nat) : (s.withOrders x).ports = s.ports := rfl
@[simp] theorem State.withOrders_events (s : State) (x : Nat) : (s.withOrders x).events = s.events := rfl
@[simp] theorem State.withOrders_ticks (s : State) (x : Nat) : (s.withOrders x).ticks = s.ticks := rfl
@[simp] theorem State.withOrders_orders (s : State) (x : Nat) : (s.withOrders x).orders = x := rfl
@[simp] theorem State.withOrders_pending (s : State) (x : Nat) : (s.withOrders x).pending = s.pending := rfl

@[simp] theorem State.withPending_mode (s : State) (x : List Instr) : (s.withPending x).mode = s.mode := rfl
@[simp] theorem State.withPending_store (s : State) (x : List Instr) : (s.withPending x).store = s.store := rfl
@[simp] theorem State.withPending_demand (s : State) (x : List Instr) : (s.withPending x).demand = s.demand := rfl
@[simp] theorem State.withPending_ctx (s : State) (x : List Instr) : (s.withPending x).ctx = s.ctx := rfl
@[simp] theorem State.withPending_link (s : State) (x : List Instr) : (s.withPending x).link = s.link := rfl
@[simp] theorem State.withPending_sup (s : State) (x : List Instr) : (s.withPending x).sup = s.sup := rfl
@[simp] theorem State.withPending_noise (s : State) (x : List Instr) : (s.withPending x).noise = s.noise := rfl
@[simp] theorem State.withPending_leak (s : State) (x : List Instr) : (s.withPending x).leak = s.leak := rfl
@[simp] theorem State.withPending_zero (s : State) (x : List Instr) : (s.withPending x).zero = s.zero := rfl
@[simp] theorem State.withPending_conv (s : State) (x : List Instr) : (s.withPending x).conv = s.conv := rfl
@[simp] theorem State.withPending_queue (s : State) (x : List Instr) : (s.withPending x).queue = s.queue := rfl
@[simp] theorem State.withPending_ports (s : State) (x : List Instr) : (s.withPending x).ports = s.ports := rfl
@[simp] theorem State.withPending_events (s : State) (x : List Instr) : (s.withPending x).events = s.events := rfl
@[simp] theorem State.withPending_ticks (s : State) (x : List Instr) : (s.withPending x).ticks = s.ticks := rfl
@[simp] theorem State.withPending_orders (s : State) (x : List Instr) : (s.withPending x).orders = s.orders := rfl
@[simp] theorem State.withPending_pending (s : State) (x : List Instr) : (s.withPending x).pending = x := rfl

end Sys2Proof.Machine
end

