-- ==== Sys2Proof/Laws/OpsFrame.lean ====
section
/-! SUPPORT. What the operations of Ops.lean leave unchanged. -/

namespace Sys2Proof.Machine

@[simp] theorem raise_frame (e : Event) (s : State) :
      (raise e s).mode = s.mode ∧
      (raise e s).store = s.store ∧
      (raise e s).demand = s.demand ∧
      (raise e s).ctx = s.ctx ∧
      (raise e s).link = s.link ∧
      (raise e s).sup = s.sup ∧
      (raise e s).noise = s.noise ∧
      (raise e s).leak = s.leak ∧
      (raise e s).zero = s.zero ∧
      (raise e s).conv = s.conv ∧
      (raise e s).queue = s.queue ∧
      (raise e s).ports = s.ports ∧
      (raise e s).ticks = s.ticks ∧
      (raise e s).orders = s.orders ∧
      (raise e s).pending = s.pending := by
  unfold raise; simp

@[simp] theorem modifyRecord_frame (i : Fin 16) (f : Record → Record) (s : State) :
      (modifyRecord i f s).mode = s.mode ∧
      (modifyRecord i f s).store = s.store ∧
      (modifyRecord i f s).demand = s.demand ∧
      (modifyRecord i f s).ctx = s.ctx ∧
      (modifyRecord i f s).link = s.link ∧
      (modifyRecord i f s).sup = s.sup ∧
      (modifyRecord i f s).noise = s.noise ∧
      (modifyRecord i f s).leak = s.leak ∧
      (modifyRecord i f s).zero = s.zero ∧
      (modifyRecord i f s).conv = s.conv ∧
      (modifyRecord i f s).ports = s.ports ∧
      (modifyRecord i f s).events = s.events ∧
      (modifyRecord i f s).ticks = s.ticks ∧
      (modifyRecord i f s).orders = s.orders ∧
      (modifyRecord i f s).pending = s.pending := by
  unfold modifyRecord; (repeat' split) <;> simp

@[simp] theorem removeRecord_frame (i : Fin 16) (s : State) :
      (removeRecord i s).mode = s.mode ∧
      (removeRecord i s).store = s.store ∧
      (removeRecord i s).demand = s.demand ∧
      (removeRecord i s).ctx = s.ctx ∧
      (removeRecord i s).link = s.link ∧
      (removeRecord i s).sup = s.sup ∧
      (removeRecord i s).noise = s.noise ∧
      (removeRecord i s).leak = s.leak ∧
      (removeRecord i s).zero = s.zero ∧
      (removeRecord i s).conv = s.conv ∧
      (removeRecord i s).ports = s.ports ∧
      (removeRecord i s).events = s.events ∧
      (removeRecord i s).ticks = s.ticks ∧
      (removeRecord i s).orders = s.orders ∧
      (removeRecord i s).pending = s.pending := by
  unfold removeRecord; simp

@[simp] theorem modifyAll_frame (f : Record → Record) (s : State) :
      (modifyAll f s).mode = s.mode ∧
      (modifyAll f s).store = s.store ∧
      (modifyAll f s).demand = s.demand ∧
      (modifyAll f s).ctx = s.ctx ∧
      (modifyAll f s).link = s.link ∧
      (modifyAll f s).sup = s.sup ∧
      (modifyAll f s).noise = s.noise ∧
      (modifyAll f s).leak = s.leak ∧
      (modifyAll f s).zero = s.zero ∧
      (modifyAll f s).conv = s.conv ∧
      (modifyAll f s).ports = s.ports ∧
      (modifyAll f s).events = s.events ∧
      (modifyAll f s).ticks = s.ticks ∧
      (modifyAll f s).orders = s.orders ∧
      (modifyAll f s).pending = s.pending := by
  unfold modifyAll; simp

@[simp] theorem post_frame (f : Record → Record) (s : State) :
      (post f s).mode = s.mode ∧
      (post f s).store = s.store ∧
      (post f s).demand = s.demand ∧
      (post f s).ctx = s.ctx ∧
      (post f s).link = s.link ∧
      (post f s).sup = s.sup ∧
      (post f s).noise = s.noise ∧
      (post f s).leak = s.leak ∧
      (post f s).zero = s.zero ∧
      (post f s).conv = s.conv ∧
      (post f s).ports = s.ports ∧
      (post f s).events = s.events ∧
      (post f s).ticks = s.ticks ∧
      (post f s).orders = s.orders ∧
      (post f s).pending = s.pending := by
  unfold post; (repeat' split) <;> simp

@[simp] theorem postRunIn_frame (f : RunInSection → RunInSection) (s : State) :
      (postRunIn f s).mode = s.mode ∧
      (postRunIn f s).store = s.store ∧
      (postRunIn f s).demand = s.demand ∧
      (postRunIn f s).ctx = s.ctx ∧
      (postRunIn f s).link = s.link ∧
      (postRunIn f s).sup = s.sup ∧
      (postRunIn f s).noise = s.noise ∧
      (postRunIn f s).leak = s.leak ∧
      (postRunIn f s).zero = s.zero ∧
      (postRunIn f s).conv = s.conv ∧
      (postRunIn f s).ports = s.ports ∧
      (postRunIn f s).events = s.events ∧
      (postRunIn f s).ticks = s.ticks ∧
      (postRunIn f s).orders = s.orders ∧
      (postRunIn f s).pending = s.pending := by
  unfold postRunIn; simp

@[simp] theorem postNoise_frame (f : NoiseSection → NoiseSection) (s : State) :
      (postNoise f s).mode = s.mode ∧
      (postNoise f s).store = s.store ∧
      (postNoise f s).demand = s.demand ∧
      (postNoise f s).ctx = s.ctx ∧
      (postNoise f s).link = s.link ∧
      (postNoise f s).sup = s.sup ∧
      (postNoise f s).noise = s.noise ∧
      (postNoise f s).leak = s.leak ∧
      (postNoise f s).zero = s.zero ∧
      (postNoise f s).conv = s.conv ∧
      (postNoise f s).ports = s.ports ∧
      (postNoise f s).events = s.events ∧
      (postNoise f s).ticks = s.ticks ∧
      (postNoise f s).orders = s.orders ∧
      (postNoise f s).pending = s.pending := by
  unfold postNoise; simp

@[simp] theorem postLeak_frame (f : LeakSection → LeakSection) (s : State) :
      (postLeak f s).mode = s.mode ∧
      (postLeak f s).store = s.store ∧
      (postLeak f s).demand = s.demand ∧
      (postLeak f s).ctx = s.ctx ∧
      (postLeak f s).link = s.link ∧
      (postLeak f s).sup = s.sup ∧
      (postLeak f s).noise = s.noise ∧
      (postLeak f s).leak = s.leak ∧
      (postLeak f s).zero = s.zero ∧
      (postLeak f s).conv = s.conv ∧
      (postLeak f s).ports = s.ports ∧
      (postLeak f s).events = s.events ∧
      (postLeak f s).ticks = s.ticks ∧
      (postLeak f s).orders = s.orders ∧
      (postLeak f s).pending = s.pending := by
  unfold postLeak; simp

@[simp] theorem appendFault_frame (k : FaultKind) (v : Nat) (s : State) :
      (appendFault k v s).mode = s.mode ∧
      (appendFault k v s).store = s.store ∧
      (appendFault k v s).demand = s.demand ∧
      (appendFault k v s).ctx = s.ctx ∧
      (appendFault k v s).link = s.link ∧
      (appendFault k v s).sup = s.sup ∧
      (appendFault k v s).noise = s.noise ∧
      (appendFault k v s).leak = s.leak ∧
      (appendFault k v s).zero = s.zero ∧
      (appendFault k v s).conv = s.conv ∧
      (appendFault k v s).ports = s.ports ∧
      (appendFault k v s).events = s.events ∧
      (appendFault k v s).ticks = s.ticks ∧
      (appendFault k v s).orders = s.orders ∧
      (appendFault k v s).pending = s.pending := by
  unfold appendFault; simp

@[simp] theorem request_frame (r : Requester) (q : Request) (s : State) :
      (request r q s).mode = s.mode ∧
      (request r q s).store = s.store ∧
      (request r q s).demand = s.demand ∧
      (request r q s).ctx = s.ctx ∧
      (request r q s).link = s.link ∧
      (request r q s).sup = s.sup ∧
      (request r q s).noise = s.noise ∧
      (request r q s).leak = s.leak ∧
      (request r q s).zero = s.zero ∧
      (request r q s).queue = s.queue ∧
      (request r q s).ports = s.ports ∧
      (request r q s).events = s.events ∧
      (request r q s).ticks = s.ticks ∧
      (request r q s).orders = s.orders ∧
      (request r q s).pending = s.pending := by
  unfold request; simp

@[simp] theorem withdraw_frame (r : Requester) (s : State) :
      (withdraw r s).mode = s.mode ∧
      (withdraw r s).store = s.store ∧
      (withdraw r s).demand = s.demand ∧
      (withdraw r s).ctx = s.ctx ∧
      (withdraw r s).link = s.link ∧
      (withdraw r s).sup = s.sup ∧
      (withdraw r s).noise = s.noise ∧
      (withdraw r s).leak = s.leak ∧
      (withdraw r s).zero = s.zero ∧
      (withdraw r s).queue = s.queue ∧
      (withdraw r s).ports = s.ports ∧
      (withdraw r s).events = s.events ∧
      (withdraw r s).ticks = s.ticks ∧
      (withdraw r s).orders = s.orders ∧
      (withdraw r s).pending = s.pending := by
  unfold withdraw; simp

@[simp] theorem requestUnlessPending_frame (r : Requester) (q : Request) (s : State) :
      (requestUnlessPending r q s).mode = s.mode ∧
      (requestUnlessPending r q s).store = s.store ∧
      (requestUnlessPending r q s).demand = s.demand ∧
      (requestUnlessPending r q s).ctx = s.ctx ∧
      (requestUnlessPending r q s).link = s.link ∧
      (requestUnlessPending r q s).sup = s.sup ∧
      (requestUnlessPending r q s).noise = s.noise ∧
      (requestUnlessPending r q s).leak = s.leak ∧
      (requestUnlessPending r q s).zero = s.zero ∧
      (requestUnlessPending r q s).queue = s.queue ∧
      (requestUnlessPending r q s).ports = s.ports ∧
      (requestUnlessPending r q s).events = s.events ∧
      (requestUnlessPending r q s).ticks = s.ticks ∧
      (requestUnlessPending r q s).orders = s.orders ∧
      (requestUnlessPending r q s).pending = s.pending := by
  unfold requestUnlessPending; (repeat' split) <;> simp

@[simp] theorem reply_frame (p : Port) (r : Reply) (s : State) :
      (reply p r s).mode = s.mode ∧
      (reply p r s).store = s.store ∧
      (reply p r s).demand = s.demand ∧
      (reply p r s).ctx = s.ctx ∧
      (reply p r s).link = s.link ∧
      (reply p r s).sup = s.sup ∧
      (reply p r s).noise = s.noise ∧
      (reply p r s).leak = s.leak ∧
      (reply p r s).zero = s.zero ∧
      (reply p r s).conv = s.conv ∧
      (reply p r s).queue = s.queue ∧
      (reply p r s).events = s.events ∧
      (reply p r s).ticks = s.ticks ∧
      (reply p r s).orders = s.orders ∧
      (reply p r s).pending = s.pending := by
  unfold reply; simp

@[simp] theorem closeFrame_frame (p : Port) (s : State) :
      (closeFrame p s).mode = s.mode ∧
      (closeFrame p s).store = s.store ∧
      (closeFrame p s).demand = s.demand ∧
      (closeFrame p s).ctx = s.ctx ∧
      (closeFrame p s).link = s.link ∧
      (closeFrame p s).sup = s.sup ∧
      (closeFrame p s).noise = s.noise ∧
      (closeFrame p s).leak = s.leak ∧
      (closeFrame p s).zero = s.zero ∧
      (closeFrame p s).conv = s.conv ∧
      (closeFrame p s).queue = s.queue ∧
      (closeFrame p s).events = s.events ∧
      (closeFrame p s).ticks = s.ticks ∧
      (closeFrame p s).orders = s.orders ∧
      (closeFrame p s).pending = s.pending := by
  unfold closeFrame; simp

end Sys2Proof.Machine
end

