-- ==== Sys2Proof/Laws/LeakFrame.lean ====
section
/-! SUPPORT. What the operations of LeakOps.lean leave unchanged. -/

namespace Sys2Proof.Machine

@[simp] theorem leakLeave_frame (s : State) :
      (leakLeave s).mode = s.mode ∧
      (leakLeave s).store = s.store ∧
      (leakLeave s).demand = s.demand ∧
      (leakLeave s).ctx = s.ctx ∧
      (leakLeave s).link = s.link ∧
      (leakLeave s).sup = s.sup ∧
      (leakLeave s).noise = s.noise ∧
      (leakLeave s).zero = s.zero ∧
      (leakLeave s).queue = s.queue ∧
      (leakLeave s).ports = s.ports ∧
      (leakLeave s).events = s.events ∧
      (leakLeave s).ticks = s.ticks ∧
      (leakLeave s).orders = s.orders ∧
      (leakLeave s).pending = s.pending := by
  unfold leakLeave; simp

@[simp] theorem leakEnterVent_frame (s : State) :
      (leakEnterVent s).mode = s.mode ∧
      (leakEnterVent s).store = s.store ∧
      (leakEnterVent s).demand = s.demand ∧
      (leakEnterVent s).ctx = s.ctx ∧
      (leakEnterVent s).link = s.link ∧
      (leakEnterVent s).sup = s.sup ∧
      (leakEnterVent s).noise = s.noise ∧
      (leakEnterVent s).zero = s.zero ∧
      (leakEnterVent s).queue = s.queue ∧
      (leakEnterVent s).ports = s.ports ∧
      (leakEnterVent s).events = s.events ∧
      (leakEnterVent s).ticks = s.ticks ∧
      (leakEnterVent s).orders = s.orders ∧
      (leakEnterVent s).pending = s.pending := by
  unfold leakEnterVent; simp

@[simp] theorem leakUndecided_frame (s : State) :
      (leakUndecided s).mode = s.mode ∧
      (leakUndecided s).store = s.store ∧
      (leakUndecided s).demand = s.demand ∧
      (leakUndecided s).ctx = s.ctx ∧
      (leakUndecided s).link = s.link ∧
      (leakUndecided s).sup = s.sup ∧
      (leakUndecided s).noise = s.noise ∧
      (leakUndecided s).conv = s.conv ∧
      (leakUndecided s).zero = s.zero ∧
      (leakUndecided s).queue = s.queue ∧
      (leakUndecided s).ports = s.ports ∧
      (leakUndecided s).events = s.events ∧
      (leakUndecided s).ticks = s.ticks ∧
      (leakUndecided s).orders = s.orders ∧
      (leakUndecided s).pending = s.pending := by
  unfold leakUndecided; split <;> simp

@[simp] theorem leakToVent_frame (s : State) :
      (leakToVent s).mode = s.mode ∧
      (leakToVent s).store = s.store ∧
      (leakToVent s).demand = s.demand ∧
      (leakToVent s).ctx = s.ctx ∧
      (leakToVent s).link = s.link ∧
      (leakToVent s).sup = s.sup ∧
      (leakToVent s).noise = s.noise ∧
      (leakToVent s).zero = s.zero ∧
      (leakToVent s).queue = s.queue ∧
      (leakToVent s).ports = s.ports ∧
      (leakToVent s).events = s.events ∧
      (leakToVent s).ticks = s.ticks ∧
      (leakToVent s).orders = s.orders ∧
      (leakToVent s).pending = s.pending := by
  unfold leakToVent; dsimp only; split <;> simp

theorem leakToVent_phase (s : State) : (leakToVent s).leak.phase = .vent := by
  unfold leakToVent leakEnterVent leakLeave leakUndecided requestUnlessPending request
  dsimp only; (repeat' split) <;> simp_all [clearBurst]

theorem leakToVent_of_vent (s : State) (h : s.leak.phase = .vent) :
    (leakToVent s).leak.request = s.leak.request ∧ (leakToVent s).conv = s.conv.withdraw .leak := by
  unfold leakToVent leakLeave leakUndecided
  dsimp only; (repeat' split) <;> simp_all [withdraw, clearBurst]

@[simp] theorem leakSetUp_frame (s : State) :
      (leakSetUp s).mode = s.mode ∧
      (leakSetUp s).store = s.store ∧
      (leakSetUp s).demand = s.demand ∧
      (leakSetUp s).ctx = s.ctx ∧
      (leakSetUp s).link = s.link ∧
      (leakSetUp s).sup = s.sup ∧
      (leakSetUp s).noise = s.noise ∧
      (leakSetUp s).zero = s.zero ∧
      (leakSetUp s).queue = s.queue ∧
      (leakSetUp s).ports = s.ports ∧
      (leakSetUp s).events = s.events ∧
      (leakSetUp s).ticks = s.ticks ∧
      (leakSetUp s).orders = s.orders ∧
      (leakSetUp s).pending = s.pending := by
  unfold leakSetUp; simp

@[simp] theorem leakEnterFill_frame (c : TestContext) (n : Nat) (s : State) :
      (leakEnterFill c n s).mode = s.mode ∧
      (leakEnterFill c n s).store = s.store ∧
      (leakEnterFill c n s).demand = s.demand ∧
      (leakEnterFill c n s).ctx = s.ctx ∧
      (leakEnterFill c n s).link = s.link ∧
      (leakEnterFill c n s).sup = s.sup ∧
      (leakEnterFill c n s).noise = s.noise ∧
      (leakEnterFill c n s).zero = s.zero ∧
      (leakEnterFill c n s).ports = s.ports ∧
      (leakEnterFill c n s).events = s.events ∧
      (leakEnterFill c n s).ticks = s.ticks ∧
      (leakEnterFill c n s).orders = s.orders ∧
      (leakEnterFill c n s).pending = s.pending := by
  unfold leakEnterFill; simp

@[simp] theorem postEndReason_frame (n : Nat) (w : EndReason) (s : State) :
      (postEndReason n w s).mode = s.mode ∧
      (postEndReason n w s).store = s.store ∧
      (postEndReason n w s).demand = s.demand ∧
      (postEndReason n w s).ctx = s.ctx ∧
      (postEndReason n w s).link = s.link ∧
      (postEndReason n w s).sup = s.sup ∧
      (postEndReason n w s).noise = s.noise ∧
      (postEndReason n w s).leak = s.leak ∧
      (postEndReason n w s).zero = s.zero ∧
      (postEndReason n w s).conv = s.conv ∧
      (postEndReason n w s).ports = s.ports ∧
      (postEndReason n w s).events = s.events ∧
      (postEndReason n w s).ticks = s.ticks ∧
      (postEndReason n w s).orders = s.orders ∧
      (postEndReason n w s).pending = s.pending := by
  unfold postEndReason; (repeat' split) <;> simp

@[simp] theorem setLeakOutcome_frame (o : LeakOutcome) (s : State) :
      (setLeakOutcome o s).mode = s.mode ∧
      (setLeakOutcome o s).store = s.store ∧
      (setLeakOutcome o s).demand = s.demand ∧
      (setLeakOutcome o s).ctx = s.ctx ∧
      (setLeakOutcome o s).link = s.link ∧
      (setLeakOutcome o s).sup = s.sup ∧
      (setLeakOutcome o s).noise = s.noise ∧
      (setLeakOutcome o s).zero = s.zero ∧
      (setLeakOutcome o s).conv = s.conv ∧
      (setLeakOutcome o s).ports = s.ports ∧
      (setLeakOutcome o s).events = s.events ∧
      (setLeakOutcome o s).ticks = s.ticks ∧
      (setLeakOutcome o s).orders = s.orders ∧
      (setLeakOutcome o s).pending = s.pending := by
  unfold setLeakOutcome; simp

@[simp] theorem leakInterrupt_frame (w : EndReason) (s : State) :
      (leakInterrupt w s).mode = s.mode ∧
      (leakInterrupt w s).store = s.store ∧
      (leakInterrupt w s).demand = s.demand ∧
      (leakInterrupt w s).ctx = s.ctx ∧
      (leakInterrupt w s).link = s.link ∧
      (leakInterrupt w s).sup = s.sup ∧
      (leakInterrupt w s).noise = s.noise ∧
      (leakInterrupt w s).zero = s.zero ∧
      (leakInterrupt w s).ports = s.ports ∧
      (leakInterrupt w s).events = s.events ∧
      (leakInterrupt w s).ticks = s.ticks ∧
      (leakInterrupt w s).orders = s.orders ∧
      (leakInterrupt w s).pending = s.pending := by
  unfold leakInterrupt; dsimp only; split <;> simp

@[simp] theorem leakQuietOpening_frame (c : TestContext) (s : State) :
      (leakQuietOpening c s).mode = s.mode ∧
      (leakQuietOpening c s).store = s.store ∧
      (leakQuietOpening c s).demand = s.demand ∧
      (leakQuietOpening c s).ctx = s.ctx ∧
      (leakQuietOpening c s).link = s.link ∧
      (leakQuietOpening c s).sup = s.sup ∧
      (leakQuietOpening c s).noise = s.noise ∧
      (leakQuietOpening c s).zero = s.zero ∧
      (leakQuietOpening c s).ports = s.ports ∧
      (leakQuietOpening c s).events = s.events ∧
      (leakQuietOpening c s).ticks = s.ticks ∧
      (leakQuietOpening c s).orders = s.orders ∧
      (leakQuietOpening c s).pending = s.pending := by
  unfold leakQuietOpening; (repeat' split) <;> simp

@[simp] theorem leakStepStart_frame (c : TestContext) (first : Bool) (s : State) :
      (leakStepStart c first s).mode = s.mode ∧
      (leakStepStart c first s).store = s.store ∧
      (leakStepStart c first s).demand = s.demand ∧
      (leakStepStart c first s).ctx = s.ctx ∧
      (leakStepStart c first s).link = s.link ∧
      (leakStepStart c first s).sup = s.sup ∧
      (leakStepStart c first s).noise = s.noise ∧
      (leakStepStart c first s).zero = s.zero ∧
      (leakStepStart c first s).ports = s.ports ∧
      (leakStepStart c first s).events = s.events ∧
      (leakStepStart c first s).ticks = s.ticks ∧
      (leakStepStart c first s).orders = s.orders ∧
      (leakStepStart c first s).pending = s.pending := by
  unfold leakStepStart; (repeat' split) <;> simp

@[simp] theorem leakPause_frame (s : State) :
      (leakPause s).mode = s.mode ∧
      (leakPause s).store = s.store ∧
      (leakPause s).demand = s.demand ∧
      (leakPause s).ctx = s.ctx ∧
      (leakPause s).link = s.link ∧
      (leakPause s).sup = s.sup ∧
      (leakPause s).noise = s.noise ∧
      (leakPause s).zero = s.zero ∧
      (leakPause s).ports = s.ports ∧
      (leakPause s).events = s.events ∧
      (leakPause s).ticks = s.ticks ∧
      (leakPause s).orders = s.orders ∧
      (leakPause s).pending = s.pending := by
  unfold leakPause; (repeat' split) <;> simp

@[simp] theorem leakFinish_frame (s : State) :
      (leakFinish s).mode = s.mode ∧
      (leakFinish s).store = s.store ∧
      (leakFinish s).demand = s.demand ∧
      (leakFinish s).ctx = s.ctx ∧
      (leakFinish s).link = s.link ∧
      (leakFinish s).sup = s.sup ∧
      (leakFinish s).noise = s.noise ∧
      (leakFinish s).zero = s.zero ∧
      (leakFinish s).ports = s.ports ∧
      (leakFinish s).events = s.events ∧
      (leakFinish s).ticks = s.ticks ∧
      (leakFinish s).orders = s.orders ∧
      (leakFinish s).pending = s.pending := by
  unfold leakFinish; (repeat' split) <;> simp

@[simp] theorem leakFillReading_frame (v : Nat) (s : State) :
      (leakFillReading v s).mode = s.mode ∧
      (leakFillReading v s).store = s.store ∧
      (leakFillReading v s).demand = s.demand ∧
      (leakFillReading v s).ctx = s.ctx ∧
      (leakFillReading v s).link = s.link ∧
      (leakFillReading v s).sup = s.sup ∧
      (leakFillReading v s).noise = s.noise ∧
      (leakFillReading v s).zero = s.zero ∧
      (leakFillReading v s).ports = s.ports ∧
      (leakFillReading v s).events = s.events ∧
      (leakFillReading v s).ticks = s.ticks ∧
      (leakFillReading v s).orders = s.orders ∧
      (leakFillReading v s).pending = s.pending := by
  unfold leakFillReading; split; · simp
  · dsimp only; split; · simp
    · split <;> simp

@[simp] theorem leakAskBurst_frame (c : TestContext) (k : BurstKind) (s : State) :
      (leakAskBurst c k s).mode = s.mode ∧
      (leakAskBurst c k s).store = s.store ∧
      (leakAskBurst c k s).demand = s.demand ∧
      (leakAskBurst c k s).ctx = s.ctx ∧
      (leakAskBurst c k s).link = s.link ∧
      (leakAskBurst c k s).sup = s.sup ∧
      (leakAskBurst c k s).noise = s.noise ∧
      (leakAskBurst c k s).zero = s.zero ∧
      (leakAskBurst c k s).queue = s.queue ∧
      (leakAskBurst c k s).ports = s.ports ∧
      (leakAskBurst c k s).events = s.events ∧
      (leakAskBurst c k s).ticks = s.ticks ∧
      (leakAskBurst c k s).orders = s.orders ∧
      (leakAskBurst c k s).pending = s.pending := by
  unfold leakAskBurst; simp

@[simp] theorem leakCompute_frame (c : TestContext) (a e : PressureTemp) (s : State) :
      (leakCompute c a e s).mode = s.mode ∧
      (leakCompute c a e s).store = s.store ∧
      (leakCompute c a e s).demand = s.demand ∧
      (leakCompute c a e s).ctx = s.ctx ∧
      (leakCompute c a e s).link = s.link ∧
      (leakCompute c a e s).sup = s.sup ∧
      (leakCompute c a e s).noise = s.noise ∧
      (leakCompute c a e s).zero = s.zero ∧
      (leakCompute c a e s).ports = s.ports ∧
      (leakCompute c a e s).events = s.events ∧
      (leakCompute c a e s).ticks = s.ticks ∧
      (leakCompute c a e s).orders = s.orders ∧
      (leakCompute c a e s).pending = s.pending := by
  unfold leakCompute; dsimp only; split <;> simp

@[simp] theorem leakBurstDone_frame (c : TestContext) (k : BurstKind) (s : State) :
      (leakBurstDone c k s).mode = s.mode ∧
      (leakBurstDone c k s).store = s.store ∧
      (leakBurstDone c k s).demand = s.demand ∧
      (leakBurstDone c k s).ctx = s.ctx ∧
      (leakBurstDone c k s).link = s.link ∧
      (leakBurstDone c k s).sup = s.sup ∧
      (leakBurstDone c k s).noise = s.noise ∧
      (leakBurstDone c k s).zero = s.zero ∧
      (leakBurstDone c k s).ports = s.ports ∧
      (leakBurstDone c k s).events = s.events ∧
      (leakBurstDone c k s).ticks = s.ticks ∧
      (leakBurstDone c k s).orders = s.orders ∧
      (leakBurstDone c k s).pending = s.pending := by
  unfold leakBurstDone; split; · simp
  · dsimp only; split; · simp
    · split <;> simp

@[simp] theorem leakReading_frame (ch : Channel) (v : Nat) (s : State) :
      (leakReading ch v s).mode = s.mode ∧
      (leakReading ch v s).store = s.store ∧
      (leakReading ch v s).demand = s.demand ∧
      (leakReading ch v s).ctx = s.ctx ∧
      (leakReading ch v s).link = s.link ∧
      (leakReading ch v s).sup = s.sup ∧
      (leakReading ch v s).noise = s.noise ∧
      (leakReading ch v s).zero = s.zero ∧
      (leakReading ch v s).ports = s.ports ∧
      (leakReading ch v s).events = s.events ∧
      (leakReading ch v s).ticks = s.ticks ∧
      (leakReading ch v s).orders = s.orders ∧
      (leakReading ch v s).pending = s.pending := by
  unfold leakReading; split
  · split <;> simp
  · split
    · dsimp only; split <;> simp
    · simp
  all_goals simp

end Sys2Proof.Machine
end

