-- ==== Sys2Proof/Laws/Ops.lean ====
section
/-! SUPPORT. What the shared operations do: the keyed tables, records and latches after one change, and what the searches for a
record answer. -/

namespace Sys2Proof.Machine

/-! ## Keyed tables -/

@[simp] theorem PerDrive.get_set {α : Type} (p : PerDrive α) (d e : DriveId) (x : α) :
    (p.set d x).get e = if e = d then x else p.get e := by
  cases d <;> cases e <;> rfl

@[simp] theorem PerRequester.get_set {α : Type} (p : PerRequester α) (r q : Requester) (x : α) :
    (p.set r x).get q = if q = r then x else p.get q := by
  cases r <;> cases q <;> rfl

@[simp] theorem Filters.get_set (f : Filters) (m n : FilteredMonitor) (t : Timer) :
    (f.set m t).get n = if n = m then t else f.get n := by
  cases m <;> cases n <;> rfl

@[simp] theorem Ports.get_set (x : Ports) (p q : Port) (y : PortState) :
    (x.set p y).get q = if q = p then y else x.get q := by
  cases p <;> cases q <;> rfl

@[simp] theorem Ports.set_rights (x : Ports) (p : Port) (y : PortState) : (x.set p y).rights = x.rights := by
  cases p <;> rfl

/-- A reply is held by its own port, whose frame is closed. -/
theorem reply_ports (p q : Port) (r : Reply) (s : State) :
    (reply p r s).ports.get q = if q = p then ⟨r, .idle⟩ else s.ports.get q := by
  simp [reply]

theorem LatchKind.index_inj {k j : LatchKind} (h : k.index = j.index) : k = j := by
  revert h; cases k <;> cases j <;> decide

theorem mem_allLatches (k : LatchKind) : k ∈ allLatches := by cases k <;> decide

theorem mem_allSlots : ∀ i : Fin 16, i ∈ allSlots := by decide

theorem mem_allSources : ∀ i : Fin 11, i ∈ allSources := by decide

/-! ## Latches -/

/-- Setting one latch leaves the others. -/
theorem latchValue_storeLatch (k j : LatchKind) (v : Nat) (s : State) :
    latchValue (storeLatch k v s) j = if j = k then some v else latchValue s j := by
  have h : k.index.val = j.index.val ↔ j = k :=
    ⟨fun h => (LatchKind.index_inj (Fin.ext h)).symm, fun h => by rw [h]⟩
  simp [latchValue, storeLatch, Vector.getElem_set, h]

/-! ## Records -/

/-- What is read of the records depends on the queue alone. -/
theorem recordAt_congr {s t : State} (h : t.queue = s.queue) (i : Fin 16) : recordAt t i = recordAt s i := by
  simp [recordAt, h]

theorem onTestSlot_congr {s t : State} (h : t.queue = s.queue) : onTestSlot t = onTestSlot s := by
  have : slotHas t (fun r => r.state == .onTest) = slotHas s (fun r => r.state == .onTest) := by
    funext i; simp [slotHas, recordAt_congr h]
  simp [onTestSlot, this]

/-- A change of one record leaves the others. -/
theorem recordAt_modifyRecord (i j : Fin 16) (f : Record → Record) (s : State) :
    recordAt (modifyRecord i f s) j = if j = i then (recordAt s j).map f else recordAt s j := by
  unfold modifyRecord
  split
  · rename_i r hr
    by_cases h : j = i
    · subst h; simp [recordAt] at *; simp [hr]
    · have : i.val ≠ j.val := fun e => h (Fin.ext e.symm)
      simp [recordAt, h, this]
  · rename_i hr
    by_cases h : j = i
    · subst h; simp [hr]
    · simp [h]

/-- A removal leaves the other records. -/
theorem recordAt_removeRecord (i j : Fin 16) (s : State) :
    recordAt (removeRecord i s) j = if j = i then none else recordAt s j := by
  by_cases h : j = i
  · subst h; simp [recordAt, removeRecord]
  · have : i.val ≠ j.val := fun e => h (Fin.ext e.symm)
    simp [recordAt, removeRecord, h, this]

/-- A change of every record. -/
theorem recordAt_modifyAll (j : Fin 16) (f : Record → Record) (s : State) :
    recordAt (modifyAll f s) j = (recordAt s j).map f := by
  simp [recordAt, modifyAll]

/-- A post with no record ON TEST is dropped, and one with a record in slot `i` changes that record. -/
theorem post_none {s : State} (h : onTestSlot s = none) (f : Record → Record) : post f s = s := by simp [post, h]

theorem post_some {s : State} {i : Fin 16} (h : onTestSlot s = some i) (f : Record → Record) :
    post f s = modifyRecord i f s := by simp [post, h]

/-- The record ON TEST stands in the slot that the search answers. -/
theorem onTestSlot_some {s : State} {i : Fin 16} (h : onTestSlot s = some i) :
    ∃ r, recordAt s i = some r ∧ r.state = .onTest := by
  have := List.find?_some h
  unfold slotHas at this
  split at this
  · exact ⟨_, ‹_›, by simpa using this⟩
  · cases this

theorem onTestSlot_none {s : State} :
    onTestSlot s = none ↔ ∀ i r, recordAt s i = some r → r.state ≠ .onTest := by
  simp only [onTestSlot, List.find?_eq_none, slotHas]
  constructor
  · intro h i r hr e
    have := h i (mem_allSlots i)
    simp [hr, e] at this
  · intro h i _
    split
    · rename_i r hr; simpa using h i r hr
    · simp

/-- The appended entry, where the list has room. -/
theorem appendEntry_room {r : Record} (h : r.faults.length < 6) (e : FaultEntry) :
    appendEntry e r = { r with faults := r.faults ++ [e] } := by simp [appendEntry, h]

/-- An append to the fault list changes nothing else of a record but the overflow mark. -/
theorem appendEntry_frame (e : FaultEntry) (r : Record) :
    appendEntry e r =
      { r with faults := (appendEntry e r).faults, overflow := (appendEntry e r).overflow } := by
  unfold appendEntry; split <;> rfl

end Sys2Proof.Machine
end

