-- ==== Sys2Proof/Laws/OrderFrame.lean ====
section
/-! SUPPORT. What the operations of OrderOps.lean leave unchanged, and when a stall expiry acts. -/

namespace Sys2Proof.Machine

@[simp] theorem discardBlock_frame (s : State) :
      (discardBlock s).mode = s.mode ∧
      (discardBlock s).store = s.store ∧
      (discardBlock s).demand = s.demand ∧
      (discardBlock s).ctx = s.ctx ∧
      (discardBlock s).link = s.link ∧
      (discardBlock s).sup = s.sup ∧
      (discardBlock s).leak = s.leak ∧
      (discardBlock s).zero = s.zero ∧
      (discardBlock s).conv = s.conv ∧
      (discardBlock s).ports = s.ports ∧
      (discardBlock s).events = s.events ∧
      (discardBlock s).ticks = s.ticks ∧
      (discardBlock s).orders = s.orders ∧
      (discardBlock s).pending = s.pending := by
  unfold discardBlock; simp

@[simp] theorem closeBlock_frame (c : TestContext) (b : Block) (t : Stamp) (s : State) :
      (closeBlock c b t s).mode = s.mode ∧
      (closeBlock c b t s).store = s.store ∧
      (closeBlock c b t s).demand = s.demand ∧
      (closeBlock c b t s).ctx = s.ctx ∧
      (closeBlock c b t s).link = s.link ∧
      (closeBlock c b t s).sup = s.sup ∧
      (closeBlock c b t s).leak = s.leak ∧
      (closeBlock c b t s).zero = s.zero ∧
      (closeBlock c b t s).conv = s.conv ∧
      (closeBlock c b t s).ports = s.ports ∧
      (closeBlock c b t s).events = s.events ∧
      (closeBlock c b t s).ticks = s.ticks ∧
      (closeBlock c b t s).orders = s.orders ∧
      (closeBlock c b t s).pending = s.pending := by
  unfold closeBlock; (repeat' split) <;> simp

@[simp] theorem pulseBlock_frame (b : Block) (t : Stamp) (e : Direction) (s : State) :
      (pulseBlock b t e s).mode = s.mode ∧
      (pulseBlock b t e s).store = s.store ∧
      (pulseBlock b t e s).demand = s.demand ∧
      (pulseBlock b t e s).ctx = s.ctx ∧
      (pulseBlock b t e s).link = s.link ∧
      (pulseBlock b t e s).sup = s.sup ∧
      (pulseBlock b t e s).leak = s.leak ∧
      (pulseBlock b t e s).zero = s.zero ∧
      (pulseBlock b t e s).conv = s.conv ∧
      (pulseBlock b t e s).ports = s.ports ∧
      (pulseBlock b t e s).events = s.events ∧
      (pulseBlock b t e s).ticks = s.ticks ∧
      (pulseBlock b t e s).orders = s.orders ∧
      (pulseBlock b t e s).pending = s.pending := by
  unfold pulseBlock; split
  · simp
  · dsimp only; (repeat' split) <;> simp

@[simp] theorem considerStart_frame (t : Stamp) (e : Direction) (s : State) :
      (considerStart t e s).mode = s.mode ∧
      (considerStart t e s).store = s.store ∧
      (considerStart t e s).demand = s.demand ∧
      (considerStart t e s).ctx = s.ctx ∧
      (considerStart t e s).link = s.link ∧
      (considerStart t e s).sup = s.sup ∧
      (considerStart t e s).leak = s.leak ∧
      (considerStart t e s).zero = s.zero ∧
      (considerStart t e s).conv = s.conv ∧
      (considerStart t e s).queue = s.queue ∧
      (considerStart t e s).ports = s.ports ∧
      (considerStart t e s).events = s.events ∧
      (considerStart t e s).ticks = s.ticks ∧
      (considerStart t e s).orders = s.orders ∧
      (considerStart t e s).pending = s.pending := by
  unfold considerStart; (repeat' split) <;> simp

@[simp] theorem encoderPulse_frame (t : Stamp) (e : Direction) (s : State) :
      (encoderPulse t e s).mode = s.mode ∧
      (encoderPulse t e s).store = s.store ∧
      (encoderPulse t e s).demand = s.demand ∧
      (encoderPulse t e s).ctx = s.ctx ∧
      (encoderPulse t e s).link = s.link ∧
      (encoderPulse t e s).sup = s.sup ∧
      (encoderPulse t e s).leak = s.leak ∧
      (encoderPulse t e s).zero = s.zero ∧
      (encoderPulse t e s).conv = s.conv ∧
      (encoderPulse t e s).ports = s.ports ∧
      (encoderPulse t e s).events = s.events ∧
      (encoderPulse t e s).orders = s.orders ∧
      (encoderPulse t e s).pending = s.pending := by
  unfold encoderPulse; dsimp only; split <;> simp

@[simp] theorem sampleArrival_frame (t : Stamp) (w : SampleWord) (s : State) :
      (sampleArrival t w s).mode = s.mode ∧
      (sampleArrival t w s).store = s.store ∧
      (sampleArrival t w s).demand = s.demand ∧
      (sampleArrival t w s).ctx = s.ctx ∧
      (sampleArrival t w s).link = s.link ∧
      (sampleArrival t w s).sup = s.sup ∧
      (sampleArrival t w s).leak = s.leak ∧
      (sampleArrival t w s).zero = s.zero ∧
      (sampleArrival t w s).conv = s.conv ∧
      (sampleArrival t w s).ports = s.ports ∧
      (sampleArrival t w s).events = s.events ∧
      (sampleArrival t w s).orders = s.orders ∧
      (sampleArrival t w s).pending = s.pending := by
  unfold sampleArrival; dsimp only; split
  · split <;> simp
  · simp

@[simp] theorem stallExpiry_frame (s : State) :
      (stallExpiry s).mode = s.mode ∧
      (stallExpiry s).store = s.store ∧
      (stallExpiry s).demand = s.demand ∧
      (stallExpiry s).ctx = s.ctx ∧
      (stallExpiry s).link = s.link ∧
      (stallExpiry s).sup = s.sup ∧
      (stallExpiry s).leak = s.leak ∧
      (stallExpiry s).zero = s.zero ∧
      (stallExpiry s).conv = s.conv ∧
      (stallExpiry s).ports = s.ports ∧
      (stallExpiry s).events = s.events ∧
      (stallExpiry s).ticks = s.ticks ∧
      (stallExpiry s).orders = s.orders ∧
      (stallExpiry s).pending = s.pending := by
  unfold stallExpiry; dsimp only; split <;> simp

/-- A pulse has been taken at the present tick exactly where the last pulse's stamp is the tick count and the stall timer does not run with less
than its full time. -/
theorem pulseJustTaken_iff (s : State) :
    pulseJustTaken s = true ↔
      s.noise.stall.hasRun Config.stallTicks = false ∧ ∃ q, s.noise.lastPulse = some q ∧ q.stamp = s.ticks := by
  unfold pulseJustTaken
  split <;> simp_all [and_comm]

/-- A stall expiry is that of R89 where the timer runs and no pulse has just been taken, and nothing otherwise. -/
theorem stallTimerExpiry_eq (s : State) :
    stallTimerExpiry s = if s.noise.stall.isRunning = true ∧ pulseJustTaken s = false then stallExpiry s else s := by
  simp [stallTimerExpiry]

end Sys2Proof.Machine
end

