-- ==== Sys2Proof/Laws/TestFrame.lean ====
section
/-! SUPPORT. What the operations of MonitorOps.lean and TestOps.lean leave unchanged. -/

namespace Sys2Proof.Machine

@[simp] theorem setFilter_frame (m : FilteredMonitor) (t : Timer) (s : State) :
      (setFilter m t s).mode = s.mode ∧
      (setFilter m t s).store = s.store ∧
      (setFilter m t s).demand = s.demand ∧
      (setFilter m t s).ctx = s.ctx ∧
      (setFilter m t s).link = s.link ∧
      (setFilter m t s).noise = s.noise ∧
      (setFilter m t s).leak = s.leak ∧
      (setFilter m t s).zero = s.zero ∧
      (setFilter m t s).conv = s.conv ∧
      (setFilter m t s).queue = s.queue ∧
      (setFilter m t s).ports = s.ports ∧
      (setFilter m t s).events = s.events ∧
      (setFilter m t s).ticks = s.ticks ∧
      (setFilter m t s).orders = s.orders ∧
      (setFilter m t s).pending = s.pending := by
  unfold setFilter; simp

@[simp] theorem judgeOne_frame (s : State) (m : FilteredMonitor) :
      (judgeOne s m).mode = s.mode ∧
      (judgeOne s m).store = s.store ∧
      (judgeOne s m).demand = s.demand ∧
      (judgeOne s m).ctx = s.ctx ∧
      (judgeOne s m).link = s.link ∧
      (judgeOne s m).noise = s.noise ∧
      (judgeOne s m).leak = s.leak ∧
      (judgeOne s m).zero = s.zero ∧
      (judgeOne s m).conv = s.conv ∧
      (judgeOne s m).queue = s.queue ∧
      (judgeOne s m).ports = s.ports ∧
      (judgeOne s m).events = s.events ∧
      (judgeOne s m).ticks = s.ticks ∧
      (judgeOne s m).orders = s.orders ∧
      (judgeOne s m).pending = s.pending := by
  unfold judgeOne; (repeat' split) <;> simp

@[simp] theorem judgeMonitors_frame (s : State) :
      (judgeMonitors s).mode = s.mode ∧
      (judgeMonitors s).store = s.store ∧
      (judgeMonitors s).demand = s.demand ∧
      (judgeMonitors s).ctx = s.ctx ∧
      (judgeMonitors s).link = s.link ∧
      (judgeMonitors s).noise = s.noise ∧
      (judgeMonitors s).leak = s.leak ∧
      (judgeMonitors s).zero = s.zero ∧
      (judgeMonitors s).conv = s.conv ∧
      (judgeMonitors s).queue = s.queue ∧
      (judgeMonitors s).ports = s.ports ∧
      (judgeMonitors s).events = s.events ∧
      (judgeMonitors s).ticks = s.ticks ∧
      (judgeMonitors s).orders = s.orders ∧
      (judgeMonitors s).pending = s.pending := by
  unfold judgeMonitors allMonitors; simp

@[simp] theorem referenceChange_frame (s : State) :
      (referenceChange s).mode = s.mode ∧
      (referenceChange s).store = s.store ∧
      (referenceChange s).demand = s.demand ∧
      (referenceChange s).ctx = s.ctx ∧
      (referenceChange s).link = s.link ∧
      (referenceChange s).noise = s.noise ∧
      (referenceChange s).leak = s.leak ∧
      (referenceChange s).zero = s.zero ∧
      (referenceChange s).conv = s.conv ∧
      (referenceChange s).queue = s.queue ∧
      (referenceChange s).ports = s.ports ∧
      (referenceChange s).events = s.events ∧
      (referenceChange s).ticks = s.ticks ∧
      (referenceChange s).orders = s.orders ∧
      (referenceChange s).pending = s.pending := by
  unfold referenceChange; simp

@[simp] theorem monitorsStepStart_frame (s : State) :
      (monitorsStepStart s).mode = s.mode ∧
      (monitorsStepStart s).store = s.store ∧
      (monitorsStepStart s).demand = s.demand ∧
      (monitorsStepStart s).ctx = s.ctx ∧
      (monitorsStepStart s).link = s.link ∧
      (monitorsStepStart s).noise = s.noise ∧
      (monitorsStepStart s).leak = s.leak ∧
      (monitorsStepStart s).zero = s.zero ∧
      (monitorsStepStart s).conv = s.conv ∧
      (monitorsStepStart s).queue = s.queue ∧
      (monitorsStepStart s).ports = s.ports ∧
      (monitorsStepStart s).events = s.events ∧
      (monitorsStepStart s).ticks = s.ticks ∧
      (monitorsStepStart s).orders = s.orders ∧
      (monitorsStepStart s).pending = s.pending := by
  unfold monitorsStepStart; simp

@[simp] theorem driveEnableFell_frame (s : State) :
      (driveEnableFell s).mode = s.mode ∧
      (driveEnableFell s).store = s.store ∧
      (driveEnableFell s).demand = s.demand ∧
      (driveEnableFell s).ctx = s.ctx ∧
      (driveEnableFell s).link = s.link ∧
      (driveEnableFell s).noise = s.noise ∧
      (driveEnableFell s).leak = s.leak ∧
      (driveEnableFell s).zero = s.zero ∧
      (driveEnableFell s).queue = s.queue ∧
      (driveEnableFell s).ports = s.ports ∧
      (driveEnableFell s).events = s.events ∧
      (driveEnableFell s).ticks = s.ticks ∧
      (driveEnableFell s).orders = s.orders ∧
      (driveEnableFell s).pending = s.pending := by
  unfold driveEnableFell; simp

@[simp] theorem abandonBlock_frame (s : State) :
      (abandonBlock s).mode = s.mode ∧
      (abandonBlock s).store = s.store ∧
      (abandonBlock s).demand = s.demand ∧
      (abandonBlock s).ctx = s.ctx ∧
      (abandonBlock s).link = s.link ∧
      (abandonBlock s).sup = s.sup ∧
      (abandonBlock s).leak = s.leak ∧
      (abandonBlock s).zero = s.zero ∧
      (abandonBlock s).conv = s.conv ∧
      (abandonBlock s).queue = s.queue ∧
      (abandonBlock s).ports = s.ports ∧
      (abandonBlock s).events = s.events ∧
      (abandonBlock s).ticks = s.ticks ∧
      (abandonBlock s).orders = s.orders ∧
      (abandonBlock s).pending = s.pending := by
  unfold abandonBlock; simp

@[simp] theorem abandonCheck_frame (s : State) :
      (abandonCheck s).mode = s.mode ∧
      (abandonCheck s).store = s.store ∧
      (abandonCheck s).demand = s.demand ∧
      (abandonCheck s).ctx = s.ctx ∧
      (abandonCheck s).link = s.link ∧
      (abandonCheck s).sup = s.sup ∧
      (abandonCheck s).noise = s.noise ∧
      (abandonCheck s).leak = s.leak ∧
      (abandonCheck s).queue = s.queue ∧
      (abandonCheck s).ports = s.ports ∧
      (abandonCheck s).ticks = s.ticks ∧
      (abandonCheck s).orders = s.orders ∧
      (abandonCheck s).pending = s.pending := by
  unfold abandonCheck; (repeat' split) <;> simp

@[simp] theorem abandonCheckOf_frame (p : CheckKind → Bool) (s : State) :
      (abandonCheckOf p s).mode = s.mode ∧
      (abandonCheckOf p s).store = s.store ∧
      (abandonCheckOf p s).demand = s.demand ∧
      (abandonCheckOf p s).ctx = s.ctx ∧
      (abandonCheckOf p s).link = s.link ∧
      (abandonCheckOf p s).sup = s.sup ∧
      (abandonCheckOf p s).noise = s.noise ∧
      (abandonCheckOf p s).leak = s.leak ∧
      (abandonCheckOf p s).queue = s.queue ∧
      (abandonCheckOf p s).ports = s.ports ∧
      (abandonCheckOf p s).ticks = s.ticks ∧
      (abandonCheckOf p s).orders = s.orders ∧
      (abandonCheckOf p s).pending = s.pending := by
  unfold abandonCheckOf; (repeat' split) <;> simp

@[simp] theorem endContext_frame (s : State) :
      (endContext s).mode = s.mode ∧
      (endContext s).store = s.store ∧
      (endContext s).demand = s.demand ∧
      (endContext s).link = s.link ∧
      (endContext s).leak = s.leak ∧
      (endContext s).zero = s.zero ∧
      (endContext s).conv = s.conv ∧
      (endContext s).queue = s.queue ∧
      (endContext s).ports = s.ports ∧
      (endContext s).events = s.events ∧
      (endContext s).ticks = s.ticks ∧
      (endContext s).orders = s.orders ∧
      (endContext s).pending = s.pending := by
  unfold endContext; (repeat' split) <;> simp

@[simp] theorem endTest_frame (s : State) :
      (endTest s).mode = s.mode ∧
      (endTest s).store = s.store ∧
      (endTest s).demand = s.demand ∧
      (endTest s).link = s.link ∧
      (endTest s).leak = s.leak ∧
      (endTest s).ports = s.ports ∧
      (endTest s).ticks = s.ticks ∧
      (endTest s).orders = s.orders ∧
      (endTest s).pending = s.pending := by
  unfold endTest; split
  · split
    · simp
    · simp
  · simp

@[simp] theorem setMode_frame (m : Mode) (s : State) :
      (setMode m s).store = s.store ∧
      (setMode m s).demand = s.demand ∧
      (setMode m s).ctx = s.ctx ∧
      (setMode m s).link = s.link ∧
      (setMode m s).leak = s.leak ∧
      (setMode m s).queue = s.queue ∧
      (setMode m s).ports = s.ports ∧
      (setMode m s).ticks = s.ticks ∧
      (setMode m s).orders = s.orders ∧
      (setMode m s).pending = s.pending := by
  unfold setMode; dsimp only; (repeat' split) <;> simp

@[simp] theorem dropTarget_frame (s : State) :
      (dropTarget s).store = s.store ∧
      (dropTarget s).demand = s.demand ∧
      (dropTarget s).ctx = s.ctx ∧
      (dropTarget s).link = s.link ∧
      (dropTarget s).sup = s.sup ∧
      (dropTarget s).noise = s.noise ∧
      (dropTarget s).leak = s.leak ∧
      (dropTarget s).zero = s.zero ∧
      (dropTarget s).conv = s.conv ∧
      (dropTarget s).queue = s.queue ∧
      (dropTarget s).ports = s.ports ∧
      (dropTarget s).ticks = s.ticks ∧
      (dropTarget s).orders = s.orders ∧
      (dropTarget s).pending = s.pending := by
  unfold dropTarget; (repeat' split) <;> simp

@[simp] theorem enterStopped_frame (m : Mode) (s : State) :
      (enterStopped m s).store = s.store ∧
      (enterStopped m s).link = s.link ∧
      (enterStopped m s).ports = s.ports ∧
      (enterStopped m s).ticks = s.ticks ∧
      (enterStopped m s).orders = s.orders ∧
      (enterStopped m s).pending = s.pending := by
  unfold enterStopped; simp

@[simp] theorem stopCause_frame (s : State) :
      (stopCause s).store = s.store ∧
      (stopCause s).link = s.link ∧
      (stopCause s).ports = s.ports ∧
      (stopCause s).ticks = s.ticks ∧
      (stopCause s).orders = s.orders ∧
      (stopCause s).pending = s.pending := by
  unfold stopCause; (repeat' split) <;> simp

@[simp] theorem enterHalt_frame (s : State) :
      (enterHalt s).store = s.store ∧
      (enterHalt s).link = s.link ∧
      (enterHalt s).ports = s.ports ∧
      (enterHalt s).ticks = s.ticks ∧
      (enterHalt s).orders = s.orders ∧
      (enterHalt s).pending = s.pending := by
  unfold enterHalt; simp

@[simp] theorem storeLatch_frame (k : LatchKind) (v : Nat) (s : State) :
      (storeLatch k v s).mode = s.mode ∧
      (storeLatch k v s).store = s.store ∧
      (storeLatch k v s).demand = s.demand ∧
      (storeLatch k v s).ctx = s.ctx ∧
      (storeLatch k v s).link = s.link ∧
      (storeLatch k v s).noise = s.noise ∧
      (storeLatch k v s).leak = s.leak ∧
      (storeLatch k v s).zero = s.zero ∧
      (storeLatch k v s).conv = s.conv ∧
      (storeLatch k v s).queue = s.queue ∧
      (storeLatch k v s).ports = s.ports ∧
      (storeLatch k v s).events = s.events ∧
      (storeLatch k v s).ticks = s.ticks ∧
      (storeLatch k v s).orders = s.orders ∧
      (storeLatch k v s).pending = s.pending := by
  unfold storeLatch; simp

@[simp] theorem stopFilterOf_frame (k : LatchKind) (s : State) :
      (stopFilterOf k s).mode = s.mode ∧
      (stopFilterOf k s).store = s.store ∧
      (stopFilterOf k s).demand = s.demand ∧
      (stopFilterOf k s).ctx = s.ctx ∧
      (stopFilterOf k s).link = s.link ∧
      (stopFilterOf k s).noise = s.noise ∧
      (stopFilterOf k s).leak = s.leak ∧
      (stopFilterOf k s).zero = s.zero ∧
      (stopFilterOf k s).conv = s.conv ∧
      (stopFilterOf k s).queue = s.queue ∧
      (stopFilterOf k s).ports = s.ports ∧
      (stopFilterOf k s).events = s.events ∧
      (stopFilterOf k s).ticks = s.ticks ∧
      (stopFilterOf k s).orders = s.orders ∧
      (stopFilterOf k s).pending = s.pending := by
  unfold stopFilterOf; (repeat' split) <;> simp

@[simp] theorem latch_frame (k : LatchKind) (v : Nat) (s : State) :
      (latch k v s).store = s.store ∧
      (latch k v s).link = s.link ∧
      (latch k v s).ports = s.ports ∧
      (latch k v s).ticks = s.ticks ∧
      (latch k v s).orders = s.orders ∧
      (latch k v s).pending = s.pending := by
  unfold latch; dsimp only; (repeat' split) <;> simp

@[simp] theorem completionCheck_frame (s : State) :
      (completionCheck s).store = s.store ∧
      (completionCheck s).ctx = s.ctx ∧
      (completionCheck s).link = s.link ∧
      (completionCheck s).leak = s.leak ∧
      (completionCheck s).queue = s.queue ∧
      (completionCheck s).ports = s.ports ∧
      (completionCheck s).ticks = s.ticks ∧
      (completionCheck s).orders = s.orders ∧
      (completionCheck s).pending = s.pending := by
  unfold completionCheck; (repeat' split) <;> simp

/-- A completion check leaves the demand, or stops it where it reaches the target. -/
theorem completionCheck_demand (s : State) :
    (completionCheck s).demand = if s.mode.target.isSome ∧ targetComplete s = true then demandStopped s.demand else s.demand := by
  unfold completionCheck; (repeat' split) <;> simp_all

@[simp] theorem enterSettle_frame (t : Target) (s : State) :
      (enterSettle t s).store = s.store ∧
      (enterSettle t s).ctx = s.ctx ∧
      (enterSettle t s).link = s.link ∧
      (enterSettle t s).queue = s.queue ∧
      (enterSettle t s).ports = s.ports ∧
      (enterSettle t s).ticks = s.ticks ∧
      (enterSettle t s).orders = s.orders ∧
      (enterSettle t s).pending = s.pending := by
  unfold enterSettle; simp

@[simp] theorem pauseRunIn_frame (s : State) :
      (pauseRunIn s).mode = s.mode ∧
      (pauseRunIn s).store = s.store ∧
      (pauseRunIn s).link = s.link ∧
      (pauseRunIn s).sup = s.sup ∧
      (pauseRunIn s).noise = s.noise ∧
      (pauseRunIn s).leak = s.leak ∧
      (pauseRunIn s).zero = s.zero ∧
      (pauseRunIn s).conv = s.conv ∧
      (pauseRunIn s).queue = s.queue ∧
      (pauseRunIn s).ports = s.ports ∧
      (pauseRunIn s).events = s.events ∧
      (pauseRunIn s).ticks = s.ticks ∧
      (pauseRunIn s).orders = s.orders ∧
      (pauseRunIn s).pending = s.pending := by
  unfold pauseRunIn; (repeat' split) <;> simp

@[simp] theorem enterPause_frame (k : PauseKind) (s : State) :
      (enterPause k s).store = s.store ∧
      (enterPause k s).link = s.link ∧
      (enterPause k s).ports = s.ports ∧
      (enterPause k s).ticks = s.ticks ∧
      (enterPause k s).orders = s.orders ∧
      (enterPause k s).pending = s.pending := by
  unfold enterPause; dsimp only; split <;> simp

@[simp] theorem supplyJudge_frame (s : State) :
      (supplyJudge s).store = s.store ∧
      (supplyJudge s).link = s.link ∧
      (supplyJudge s).ports = s.ports ∧
      (supplyJudge s).ticks = s.ticks ∧
      (supplyJudge s).orders = s.orders ∧
      (supplyJudge s).pending = s.pending := by
  unfold supplyJudge; split; · dsimp only; split <;> simp
  · simp

@[simp] theorem driveFaultJudge_frame (s : State) :
      (driveFaultJudge s).store = s.store ∧
      (driveFaultJudge s).link = s.link ∧
      (driveFaultJudge s).ports = s.ports ∧
      (driveFaultJudge s).ticks = s.ticks ∧
      (driveFaultJudge s).orders = s.orders ∧
      (driveFaultJudge s).pending = s.pending := by
  unfold driveFaultJudge; (repeat' split) <;> simp

@[simp] theorem eitherOrder_frame (m : Bool) (f g : State → State) (s : State)
      (hf : ∀ x, (f x).store = x.store ∧ (f x).link = x.link ∧ (f x).ports = x.ports ∧ (f x).ticks = x.ticks ∧
        (f x).pending = x.pending)
      (hg : ∀ x, (g x).store = x.store ∧ (g x).link = x.link ∧ (g x).ports = x.ports ∧ (g x).ticks = x.ticks ∧
        (g x).pending = x.pending) :
      (eitherOrder m f g s).store = s.store ∧ (eitherOrder m f g s).link = s.link ∧
      (eitherOrder m f g s).ports = s.ports ∧ (eitherOrder m f g s).ticks = s.ticks ∧
      (eitherOrder m f g s).pending = s.pending := by
  unfold eitherOrder; split
  · dsimp only; split <;> simp [hf, hg]
  · simp [hf, hg]

@[simp] theorem driveEnableRose_frame (s : State) :
      (driveEnableRose s).store = s.store ∧
      (driveEnableRose s).link = s.link ∧
      (driveEnableRose s).ports = s.ports ∧
      (driveEnableRose s).ticks = s.ticks ∧
      (driveEnableRose s).pending = s.pending := by
  unfold driveEnableRose; dsimp only
  simp

end Sys2Proof.Machine
end

