-- ==== Sys2Proof/Laws/SequenceFrame.lean ====
section
/-! SUPPORT. What the operations of SequenceOps.lean leave unchanged. -/

namespace Sys2Proof.Machine

@[simp] theorem reversalCheck_frame (s : State) :
      (reversalCheck s).mode = s.mode ∧
      (reversalCheck s).store = s.store ∧
      (reversalCheck s).demand = s.demand ∧
      (reversalCheck s).link = s.link ∧
      (reversalCheck s).sup = s.sup ∧
      (reversalCheck s).noise = s.noise ∧
      (reversalCheck s).leak = s.leak ∧
      (reversalCheck s).zero = s.zero ∧
      (reversalCheck s).conv = s.conv ∧
      (reversalCheck s).queue = s.queue ∧
      (reversalCheck s).ports = s.ports ∧
      (reversalCheck s).events = s.events ∧
      (reversalCheck s).ticks = s.ticks ∧
      (reversalCheck s).orders = s.orders ∧
      (reversalCheck s).pending = s.pending := by
  unfold reversalCheck; (repeat' split) <;> simp

@[simp] theorem reversalWait_frame (c : TestContext) (s : State) :
      (reversalWait c s).mode = s.mode ∧
      (reversalWait c s).store = s.store ∧
      (reversalWait c s).demand = s.demand ∧
      (reversalWait c s).link = s.link ∧
      (reversalWait c s).sup = s.sup ∧
      (reversalWait c s).noise = s.noise ∧
      (reversalWait c s).leak = s.leak ∧
      (reversalWait c s).zero = s.zero ∧
      (reversalWait c s).conv = s.conv ∧
      (reversalWait c s).queue = s.queue ∧
      (reversalWait c s).ports = s.ports ∧
      (reversalWait c s).events = s.events ∧
      (reversalWait c s).ticks = s.ticks ∧
      (reversalWait c s).orders = s.orders ∧
      (reversalWait c s).pending = s.pending := by
  unfold reversalWait; simp

@[simp] theorem enterReverse_frame (c : TestContext) (s : State) :
      (enterReverse c s).mode = s.mode ∧
      (enterReverse c s).store = s.store ∧
      (enterReverse c s).link = s.link ∧
      (enterReverse c s).noise = s.noise ∧
      (enterReverse c s).leak = s.leak ∧
      (enterReverse c s).zero = s.zero ∧
      (enterReverse c s).conv = s.conv ∧
      (enterReverse c s).queue = s.queue ∧
      (enterReverse c s).ports = s.ports ∧
      (enterReverse c s).events = s.events ∧
      (enterReverse c s).ticks = s.ticks ∧
      (enterReverse c s).orders = s.orders ∧
      (enterReverse c s).pending = s.pending := by
  unfold enterReverse; dsimp only; split <;> simp <;> split <;> simp

@[simp] theorem startCheck_frame (k : CheckKind) (s : State) :
      (startCheck k s).mode = s.mode ∧
      (startCheck k s).store = s.store ∧
      (startCheck k s).demand = s.demand ∧
      (startCheck k s).ctx = s.ctx ∧
      (startCheck k s).link = s.link ∧
      (startCheck k s).sup = s.sup ∧
      (startCheck k s).noise = s.noise ∧
      (startCheck k s).leak = s.leak ∧
      (startCheck k s).conv = s.conv ∧
      (startCheck k s).queue = s.queue ∧
      (startCheck k s).ports = s.ports ∧
      (startCheck k s).events = s.events ∧
      (startCheck k s).ticks = s.ticks ∧
      (startCheck k s).orders = s.orders ∧
      (startCheck k s).pending = s.pending := by
  unfold startCheck; simp

@[simp] theorem normalDecision_frame (s : State) :
      (normalDecision s).store = s.store ∧
      (normalDecision s).demand = s.demand ∧
      (normalDecision s).link = s.link ∧
      (normalDecision s).leak = s.leak ∧
      (normalDecision s).ports = s.ports ∧
      (normalDecision s).ticks = s.ticks ∧
      (normalDecision s).orders = s.orders ∧
      (normalDecision s).pending = s.pending := by
  unfold normalDecision; simp

@[simp] theorem toFinishStage_frame (c : TestContext) (st : FinishStage) (h : Bool) (s : State) :
      (toFinishStage c st h s).mode = s.mode ∧
      (toFinishStage c st h s).store = s.store ∧
      (toFinishStage c st h s).demand = s.demand ∧
      (toFinishStage c st h s).link = s.link ∧
      (toFinishStage c st h s).sup = s.sup ∧
      (toFinishStage c st h s).noise = s.noise ∧
      (toFinishStage c st h s).leak = s.leak ∧
      (toFinishStage c st h s).zero = s.zero ∧
      (toFinishStage c st h s).conv = s.conv ∧
      (toFinishStage c st h s).queue = s.queue ∧
      (toFinishStage c st h s).ports = s.ports ∧
      (toFinishStage c st h s).events = s.events ∧
      (toFinishStage c st h s).ticks = s.ticks ∧
      (toFinishStage c st h s).orders = s.orders ∧
      (toFinishStage c st h s).pending = s.pending := by
  unfold toFinishStage; simp

@[simp] theorem decisionDue_frame (c : TestContext) (s : State) :
      (decisionDue c s).store = s.store ∧
      (decisionDue c s).demand = s.demand ∧
      (decisionDue c s).link = s.link ∧
      (decisionDue c s).leak = s.leak ∧
      (decisionDue c s).ports = s.ports ∧
      (decisionDue c s).ticks = s.ticks ∧
      (decisionDue c s).orders = s.orders ∧
      (decisionDue c s).pending = s.pending := by
  unfold decisionDue; (repeat' split) <;> simp

@[simp] theorem zeroAsk_frame (c : TestContext) (s : State) :
      (zeroAsk c s).store = s.store ∧
      (zeroAsk c s).demand = s.demand ∧
      (zeroAsk c s).link = s.link ∧
      (zeroAsk c s).leak = s.leak ∧
      (zeroAsk c s).ports = s.ports ∧
      (zeroAsk c s).ticks = s.ticks ∧
      (zeroAsk c s).orders = s.orders ∧
      (zeroAsk c s).pending = s.pending := by
  unfold zeroAsk; (repeat' split) <;> simp

@[simp] theorem enterZeroWait_frame (c : TestContext) (s : State) :
      (enterZeroWait c s).store = s.store ∧
      (enterZeroWait c s).demand = s.demand ∧
      (enterZeroWait c s).link = s.link ∧
      (enterZeroWait c s).leak = s.leak ∧
      (enterZeroWait c s).ports = s.ports ∧
      (enterZeroWait c s).ticks = s.ticks ∧
      (enterZeroWait c s).orders = s.orders ∧
      (enterZeroWait c s).pending = s.pending := by
  unfold enterZeroWait; (repeat' split) <;> simp

@[simp] theorem leakDoneReport_frame (s : State) :
      (leakDoneReport s).store = s.store ∧
      (leakDoneReport s).demand = s.demand ∧
      (leakDoneReport s).link = s.link ∧
      (leakDoneReport s).leak = s.leak ∧
      (leakDoneReport s).ports = s.ports ∧
      (leakDoneReport s).ticks = s.ticks ∧
      (leakDoneReport s).orders = s.orders ∧
      (leakDoneReport s).pending = s.pending := by
  unfold leakDoneReport; (repeat' split) <;> simp

@[simp] theorem zeroAnswer_frame (s : State) :
      (zeroAnswer s).store = s.store ∧
      (zeroAnswer s).demand = s.demand ∧
      (zeroAnswer s).link = s.link ∧
      (zeroAnswer s).leak = s.leak ∧
      (zeroAnswer s).ports = s.ports ∧
      (zeroAnswer s).ticks = s.ticks ∧
      (zeroAnswer s).orders = s.orders ∧
      (zeroAnswer s).pending = s.pending := by
  unfold zeroAnswer; (repeat' split) <;> simp

@[simp] theorem enterVentWait_frame (c : TestContext) (s : State) :
      (enterVentWait c s).store = s.store ∧
      (enterVentWait c s).demand = s.demand ∧
      (enterVentWait c s).link = s.link ∧
      (enterVentWait c s).leak = s.leak ∧
      (enterVentWait c s).ports = s.ports ∧
      (enterVentWait c s).ticks = s.ticks ∧
      (enterVentWait c s).orders = s.orders ∧
      (enterVentWait c s).pending = s.pending := by
  unfold enterVentWait; (repeat' split) <;> simp

@[simp] theorem finishCheck_frame (s : State) :
      (finishCheck s).store = s.store ∧
      (finishCheck s).demand = s.demand ∧
      (finishCheck s).link = s.link ∧
      (finishCheck s).leak = s.leak ∧
      (finishCheck s).ports = s.ports ∧
      (finishCheck s).ticks = s.ticks ∧
      (finishCheck s).orders = s.orders ∧
      (finishCheck s).pending = s.pending := by
  unfold finishCheck; split
  · split
    · dsimp only; split <;> simp
    · simp
  · simp

@[simp] theorem finishWait_frame (c : TestContext) (s : State) :
      (finishWait c s).store = s.store ∧
      (finishWait c s).demand = s.demand ∧
      (finishWait c s).link = s.link ∧
      (finishWait c s).leak = s.leak ∧
      (finishWait c s).ports = s.ports ∧
      (finishWait c s).ticks = s.ticks ∧
      (finishWait c s).orders = s.orders ∧
      (finishWait c s).pending = s.pending := by
  unfold finishWait; simp

@[simp] theorem enterFinish_frame (c : TestContext) (s : State) :
      (enterFinish c s).mode = s.mode ∧
      (enterFinish c s).store = s.store ∧
      (enterFinish c s).link = s.link ∧
      (enterFinish c s).zero = s.zero ∧
      (enterFinish c s).ports = s.ports ∧
      (enterFinish c s).events = s.events ∧
      (enterFinish c s).ticks = s.ticks ∧
      (enterFinish c s).orders = s.orders ∧
      (enterFinish c s).pending = s.pending := by
  unfold enterFinish; simp

@[simp] theorem makeHeldRequest_frame (c : TestContext) (s : State) :
      (makeHeldRequest c s).store = s.store ∧
      (makeHeldRequest c s).demand = s.demand ∧
      (makeHeldRequest c s).link = s.link ∧
      (makeHeldRequest c s).leak = s.leak ∧
      (makeHeldRequest c s).ports = s.ports ∧
      (makeHeldRequest c s).ticks = s.ticks ∧
      (makeHeldRequest c s).orders = s.orders ∧
      (makeHeldRequest c s).pending = s.pending := by
  unfold makeHeldRequest; (repeat' split) <;> simp

@[simp] theorem startStep_frame (k : Nat) (c : TestContext) (s : State) :
      (startStep k c s).1.mode = s.mode ∧
      (startStep k c s).1.store = s.store ∧
      (startStep k c s).1.link = s.link ∧
      (startStep k c s).1.zero = s.zero ∧
      (startStep k c s).1.ports = s.ports ∧
      (startStep k c s).1.events = s.events ∧
      (startStep k c s).1.ticks = s.ticks ∧
      (startStep k c s).1.orders = s.orders ∧
      (startStep k c s).1.pending = s.pending := by
  unfold startStep; dsimp only; (repeat' split) <;> simp

@[simp] theorem enterRamp_frame (c : TestContext) (s : State) :
      (enterRamp c s).1.mode = s.mode ∧
      (enterRamp c s).1.store = s.store ∧
      (enterRamp c s).1.link = s.link ∧
      (enterRamp c s).1.zero = s.zero ∧
      (enterRamp c s).1.ports = s.ports ∧
      (enterRamp c s).1.events = s.events ∧
      (enterRamp c s).1.ticks = s.ticks ∧
      (enterRamp c s).1.orders = s.orders ∧
      (enterRamp c s).1.pending = s.pending := by
  unfold enterRamp; simp

@[simp] theorem enterHold_frame (c : TestContext) (s : State) :
      (enterHold c s).1.mode = s.mode ∧
      (enterHold c s).1.store = s.store ∧
      (enterHold c s).1.link = s.link ∧
      (enterHold c s).1.zero = s.zero ∧
      (enterHold c s).1.ports = s.ports ∧
      (enterHold c s).1.events = s.events ∧
      (enterHold c s).1.ticks = s.ticks ∧
      (enterHold c s).1.orders = s.orders ∧
      (enterHold c s).1.pending = s.pending := by
  unfold enterHold; (repeat' split) <;> simp

@[simp] theorem completeStep_frame (c : TestContext) (s : State) :
      (completeStep c s).1.mode = s.mode ∧
      (completeStep c s).1.store = s.store ∧
      (completeStep c s).1.link = s.link ∧
      (completeStep c s).1.zero = s.zero ∧
      (completeStep c s).1.ports = s.ports ∧
      (completeStep c s).1.events = s.events ∧
      (completeStep c s).1.ticks = s.ticks ∧
      (completeStep c s).1.orders = s.orders ∧
      (completeStep c s).1.pending = s.pending := by
  unfold completeStep; dsimp only; (repeat' split) <;> simp

@[simp] theorem seqAct_frame (a : SeqAction) (s : State) :
      (seqAct a s).1.mode = s.mode ∧
      (seqAct a s).1.store = s.store ∧
      (seqAct a s).1.link = s.link ∧
      (seqAct a s).1.zero = s.zero ∧
      (seqAct a s).1.ports = s.ports ∧
      (seqAct a s).1.events = s.events ∧
      (seqAct a s).1.ticks = s.ticks ∧
      (seqAct a s).1.orders = s.orders ∧
      (seqAct a s).1.pending = s.pending := by
  unfold seqAct; (repeat' split) <;> simp

@[simp] theorem runSequence_frame (n : Nat) (a : SeqAction) (s : State) :
      (runSequence n a s).mode = s.mode ∧
      (runSequence n a s).store = s.store ∧
      (runSequence n a s).link = s.link ∧
      (runSequence n a s).zero = s.zero ∧
      (runSequence n a s).ports = s.ports ∧
      (runSequence n a s).events = s.events ∧
      (runSequence n a s).ticks = s.ticks ∧
      (runSequence n a s).orders = s.orders ∧
      (runSequence n a s).pending = s.pending := by
  induction n generalizing a s with
  | zero => simp [runSequence]
  | succ n ih =>
    unfold runSequence
    have h := seqAct_frame a s
    split
    · rename_i s' a' e
      rw [e] at h
      simpa [ih] using h
    · rename_i s' e
      rw [e] at h
      simpa using h

@[simp] theorem sequence_frame (a : SeqAction) (s : State) :
      (sequence a s).mode = s.mode ∧
      (sequence a s).store = s.store ∧
      (sequence a s).link = s.link ∧
      (sequence a s).zero = s.zero ∧
      (sequence a s).ports = s.ports ∧
      (sequence a s).events = s.events ∧
      (sequence a s).ticks = s.ticks ∧
      (sequence a s).orders = s.orders ∧
      (sequence a s).pending = s.pending := by
  unfold sequence; simp

@[simp] theorem resumeStep_frame (c : TestContext) (s : State) :
      (resumeStep c s).mode = s.mode ∧
      (resumeStep c s).store = s.store ∧
      (resumeStep c s).link = s.link ∧
      (resumeStep c s).zero = s.zero ∧
      (resumeStep c s).ports = s.ports ∧
      (resumeStep c s).events = s.events ∧
      (resumeStep c s).ticks = s.ticks ∧
      (resumeStep c s).orders = s.orders ∧
      (resumeStep c s).pending = s.pending := by
  unfold resumeStep; dsimp only; split <;> simp

@[simp] theorem resumeRunIn_frame (s : State) :
      (resumeRunIn s).store = s.store ∧
      (resumeRunIn s).link = s.link ∧
      (resumeRunIn s).ports = s.ports ∧
      (resumeRunIn s).ticks = s.ticks ∧
      (resumeRunIn s).orders = s.orders ∧
      (resumeRunIn s).pending = s.pending := by
  unfold resumeRunIn; (repeat' split) <;> simp

@[simp] theorem resume_frame (s : State) :
      (resume s).store = s.store ∧
      (resume s).link = s.link ∧
      (resume s).ports = s.ports ∧
      (resume s).ticks = s.ticks ∧
      (resume s).orders = s.orders ∧
      (resume s).pending = s.pending := by
  unfold resume; simp

@[simp] theorem reportRampEnd_frame (s : State) :
      (reportRampEnd s).store = s.store ∧
      (reportRampEnd s).link = s.link ∧
      (reportRampEnd s).ports = s.ports ∧
      (reportRampEnd s).ticks = s.ticks ∧
      (reportRampEnd s).orders = s.orders ∧
      (reportRampEnd s).pending = s.pending := by
  unfold reportRampEnd; (repeat' split) <;> simp

@[simp] theorem dwellEnd_frame (c : TestContext) (s : State) :
      (dwellEnd c s).mode = s.mode ∧
      (dwellEnd c s).store = s.store ∧
      (dwellEnd c s).link = s.link ∧
      (dwellEnd c s).zero = s.zero ∧
      (dwellEnd c s).ports = s.ports ∧
      (dwellEnd c s).events = s.events ∧
      (dwellEnd c s).ticks = s.ticks ∧
      (dwellEnd c s).orders = s.orders ∧
      (dwellEnd c s).pending = s.pending := by
  unfold dwellEnd; dsimp only; split <;> simp

@[simp] theorem postTorque_frame (d : DriveId) (s : State) :
      (postTorque d s).mode = s.mode ∧
      (postTorque d s).store = s.store ∧
      (postTorque d s).demand = s.demand ∧
      (postTorque d s).ctx = s.ctx ∧
      (postTorque d s).link = s.link ∧
      (postTorque d s).sup = s.sup ∧
      (postTorque d s).noise = s.noise ∧
      (postTorque d s).leak = s.leak ∧
      (postTorque d s).zero = s.zero ∧
      (postTorque d s).conv = s.conv ∧
      (postTorque d s).ports = s.ports ∧
      (postTorque d s).events = s.events ∧
      (postTorque d s).ticks = s.ticks ∧
      (postTorque d s).orders = s.orders ∧
      (postTorque d s).pending = s.pending := by
  unfold postTorque; (repeat' split) <;> simp

@[simp] theorem runInAccept_frame (d : DriveId) (s : State) :
      (runInAccept d s).store = s.store ∧
      (runInAccept d s).demand = s.demand ∧
      (runInAccept d s).link = s.link ∧
      (runInAccept d s).leak = s.leak ∧
      (runInAccept d s).ports = s.ports ∧
      (runInAccept d s).ticks = s.ticks ∧
      (runInAccept d s).orders = s.orders ∧
      (runInAccept d s).pending = s.pending := by
  unfold runInAccept; simp

@[simp] theorem modeAccept_frame (d : DriveId) (s : State) :
      (modeAccept d s).store = s.store ∧
      (modeAccept d s).ctx = s.ctx ∧
      (modeAccept d s).link = s.link ∧
      (modeAccept d s).leak = s.leak ∧
      (modeAccept d s).queue = s.queue ∧
      (modeAccept d s).ports = s.ports ∧
      (modeAccept d s).ticks = s.ticks ∧
      (modeAccept d s).orders = s.orders ∧
      (modeAccept d s).pending = s.pending := by
  unfold modeAccept; dsimp only; split <;> simp

@[simp] theorem driveFaultAccept_frame (d : DriveId) (s : State) :
      (driveFaultAccept d s).store = s.store ∧
      (driveFaultAccept d s).link = s.link ∧
      (driveFaultAccept d s).ports = s.ports ∧
      (driveFaultAccept d s).ticks = s.ticks ∧
      (driveFaultAccept d s).orders = s.orders ∧
      (driveFaultAccept d s).pending = s.pending := by
  unfold driveFaultAccept; (repeat' split) <;> simp

@[simp] theorem supplyAccept_frame (s : State) :
      (supplyAccept s).store = s.store ∧
      (supplyAccept s).link = s.link ∧
      (supplyAccept s).ports = s.ports ∧
      (supplyAccept s).ticks = s.ticks ∧
      (supplyAccept s).orders = s.orders ∧
      (supplyAccept s).pending = s.pending := by
  unfold supplyAccept; (repeat' split) <;> simp

@[simp] theorem monitorsAccept_frame (d : DriveId) (s : State) :
      (monitorsAccept d s).store = s.store ∧
      (monitorsAccept d s).link = s.link ∧
      (monitorsAccept d s).ports = s.ports ∧
      (monitorsAccept d s).ticks = s.ticks ∧
      (monitorsAccept d s).pending = s.pending := by
  unfold monitorsAccept; dsimp only
  simp

end Sys2Proof.Machine
end

