-- ==== Sys2Proof/Laws/ZeroFrame.lean ====
section
/-! SUPPORT. What the operations of ZeroOps.lean leave unchanged. -/

namespace Sys2Proof.Machine

@[simp] theorem setCurrent_frame (c : Option (Fin 16)) (z : ZeroStatus) (s : State) :
      (setCurrent c z s).mode = s.mode ∧
      (setCurrent c z s).store = s.store ∧
      (setCurrent c z s).demand = s.demand ∧
      (setCurrent c z s).ctx = s.ctx ∧
      (setCurrent c z s).link = s.link ∧
      (setCurrent c z s).sup = s.sup ∧
      (setCurrent c z s).noise = s.noise ∧
      (setCurrent c z s).leak = s.leak ∧
      (setCurrent c z s).zero = s.zero ∧
      (setCurrent c z s).conv = s.conv ∧
      (setCurrent c z s).ports = s.ports ∧
      (setCurrent c z s).events = s.events ∧
      (setCurrent c z s).ticks = s.ticks ∧
      (setCurrent c z s).orders = s.orders ∧
      (setCurrent c z s).pending = s.pending := by
  unfold setCurrent; (repeat' split) <;> simp

@[simp] theorem answerOf_frame (k : CheckKind) (s : State) :
      (answerOf k s).store = s.store ∧
      (answerOf k s).demand = s.demand ∧
      (answerOf k s).link = s.link ∧
      (answerOf k s).leak = s.leak ∧
      (answerOf k s).ports = s.ports ∧
      (answerOf k s).ticks = s.ticks ∧
      (answerOf k s).orders = s.orders ∧
      (answerOf k s).pending = s.pending := by
  unfold answerOf; (repeat' split) <;> simp

@[simp] theorem goodCheck_frame (k : CheckKind) (v : Nat) (s : State) :
      (goodCheck k v s).store = s.store ∧
      (goodCheck k v s).demand = s.demand ∧
      (goodCheck k v s).link = s.link ∧
      (goodCheck k v s).leak = s.leak ∧
      (goodCheck k v s).ports = s.ports ∧
      (goodCheck k v s).ticks = s.ticks ∧
      (goodCheck k v s).orders = s.orders ∧
      (goodCheck k v s).pending = s.pending := by
  unfold goodCheck; simp

@[simp] theorem applyPolicy_frame (k : CheckKind) (s : State) :
      (applyPolicy k s).store = s.store ∧
      (applyPolicy k s).link = s.link ∧
      (applyPolicy k s).ports = s.ports ∧
      (applyPolicy k s).ticks = s.ticks ∧
      (applyPolicy k s).orders = s.orders ∧
      (applyPolicy k s).pending = s.pending := by
  unfold applyPolicy; (repeat' split) <;> simp

@[simp] theorem failedCheck_frame (k : CheckKind) (v : Nat) (s : State) :
      (failedCheck k v s).store = s.store ∧
      (failedCheck k v s).link = s.link ∧
      (failedCheck k v s).ports = s.ports ∧
      (failedCheck k v s).ticks = s.ticks ∧
      (failedCheck k v s).orders = s.orders ∧
      (failedCheck k v s).pending = s.pending := by
  unfold failedCheck; dsimp only; split <;> simp

@[simp] theorem judgeCheck_frame (k : CheckKind) (s : State) :
      (judgeCheck k s).store = s.store ∧
      (judgeCheck k s).link = s.link ∧
      (judgeCheck k s).ports = s.ports ∧
      (judgeCheck k s).ticks = s.ticks ∧
      (judgeCheck k s).orders = s.orders ∧
      (judgeCheck k s).pending = s.pending := by
  unfold judgeCheck; dsimp only; (repeat' split) <;> simp

@[simp] theorem zeroReading_frame (v : Nat) (s : State) :
      (zeroReading v s).store = s.store ∧
      (zeroReading v s).link = s.link ∧
      (zeroReading v s).ports = s.ports ∧
      (zeroReading v s).ticks = s.ticks ∧
      (zeroReading v s).orders = s.orders ∧
      (zeroReading v s).pending = s.pending := by
  unfold zeroReading; split
  · dsimp only; split <;> simp
  · simp

@[simp] theorem oilThresholds_frame (c : TestContext) (v : Nat) (s : State) :
      (oilThresholds c v s).store = s.store ∧
      (oilThresholds c v s).link = s.link ∧
      (oilThresholds c v s).ports = s.ports ∧
      (oilThresholds c v s).ticks = s.ticks ∧
      (oilThresholds c v s).orders = s.orders ∧
      (oilThresholds c v s).pending = s.pending := by
  unfold oilThresholds; dsimp only; (repeat' split) <;> simp

@[simp] theorem oilJudge_frame (v : Nat) (s : State) :
      (oilJudge v s).store = s.store ∧
      (oilJudge v s).link = s.link ∧
      (oilJudge v s).ports = s.ports ∧
      (oilJudge v s).ticks = s.ticks ∧
      (oilJudge v s).orders = s.orders ∧
      (oilJudge v s).pending = s.pending := by
  unfold oilJudge; (repeat' split) <;> simp

@[simp] theorem oilReading_frame (expected : Bool) (v : Nat) (s : State) :
      (oilReading expected v s).store = s.store ∧
      (oilReading expected v s).link = s.link ∧
      (oilReading expected v s).ports = s.ports ∧
      (oilReading expected v s).ticks = s.ticks ∧
      (oilReading expected v s).orders = s.orders ∧
      (oilReading expected v s).pending = s.pending := by
  unfold oilReading; dsimp only; (repeat' split) <;> simp

@[simp] theorem ventReading_frame (v : Nat) (s : State) :
      (ventReading v s).store = s.store ∧
      (ventReading v s).demand = s.demand ∧
      (ventReading v s).link = s.link ∧
      (ventReading v s).ports = s.ports ∧
      (ventReading v s).ticks = s.ticks ∧
      (ventReading v s).orders = s.orders ∧
      (ventReading v s).pending = s.pending := by
  unfold ventReading; (repeat' split) <;> simp

@[simp] theorem deliver_frame (c : Conversion) (v : Nat) (s : State) :
      (deliver c v s).store = s.store ∧
      (deliver c v s).link = s.link ∧
      (deliver c v s).ports = s.ports ∧
      (deliver c v s).ticks = s.ticks ∧
      (deliver c v s).orders = s.orders ∧
      (deliver c v s).pending = s.pending := by
  unfold deliver; (repeat' split) <;> simp

@[simp] theorem passPressure_frame (c : Conversion) (v : Nat) (s : State) :
      (passPressure c v s).store = s.store ∧
      (passPressure c v s).link = s.link ∧
      (passPressure c v s).ports = s.ports ∧
      (passPressure c v s).ticks = s.ticks ∧
      (passPressure c v s).orders = s.orders ∧
      (passPressure c v s).pending = s.pending := by
  unfold passPressure; (repeat' split) <;> simp

@[simp] theorem completeConversion_frame (c : Conversion) (v : Nat) (s : State) :
      (completeConversion c v s).store = s.store ∧
      (completeConversion c v s).link = s.link ∧
      (completeConversion c v s).ports = s.ports ∧
      (completeConversion c v s).ticks = s.ticks ∧
      (completeConversion c v s).orders = s.orders ∧
      (completeConversion c v s).pending = s.pending := by
  unfold completeConversion; simp

end Sys2Proof.Machine
end

