-- ==== Sys2Proof/WellFormed.lean ====
section
/-! DEFINITION. Which commands can reach the part: what a frame's payload of at most 60 bytes carries (R160, R170), and a
code of no command for UNKNOWN COMMAND (R161). -/

namespace Sys2Proof

/-- The longest payload of a frame in bytes (R160). -/
def maxPayload : Nat := 60

/-- A command as it can arrive. Every field of one or two bytes is in range by its type. -/
def Instr.wellFormed : Instr → Bool
  | .induct _ serial _ => decide (serial.length + 2 ≤ maxPayload)
  | .recipeWrite _ _ _ _ _ values => decide (4 + 2 * values.length ≤ maxPayload)
  | .unknownCommand _ code => (commandOfCode code).isNone
  | .deviceReset _ => true
  | .guardInputChange _ _ => true
  | .supplyPauseTimerExpiry => true
  | .settleTimerExpiry => true
  | .readyRequest _ => true
  | .idleRequest _ => true
  | .pauseRequest _ => true
  | .resumeRequest _ => true
  | .cycleStart => true
  | .demandRampEnd => true
  | .cycleEnd => true
  | .statusMessage _ _ => true
  | .dwellTimerExpiry => true
  | .standstillTimerExpiry => true
  | .stepTimerExpiry => true
  | .runTimeTick => true
  | .filterTimerExpiry _ => true
  | .oilRequestTimerExpiry => true
  | .staleTimerExpiry => true
  | .encoderPulse _ _ => true
  | .stallTimerExpiry => true
  | .sampleArrival _ _ => true
  | .fillTimerExpiry => true
  | .leakSettleTimerExpiry => true
  | .measureTimerExpiry => true
  | .leakRequestTimerExpiry => true
  | .checkTimerExpiry => true
  | .conversionCompletion _ => true
  | .frameStart _ => true
  | .frameEnd _ _ => true
  | .start _ => true
  | .abort _ => true
  | .verdict _ => true
  | .archive _ _ => true
  | .recordRead _ _ _ _ => true
  | .status _ => true
  | .event _ => true
  | .faultRead _ => true
  | .clearFaults _ => true
  | .faultReadAndClear _ => true
  | .cellClear _ => true
  | .recipeRead _ _ _ _ _ _ => true
  | .recipeValidate _ _ => true
  | .patchWrite _ _ _ _ _ _ _ _ => true
  | .patchRead _ _ => true
  | .zeroCapture _ => true
  | .zeroCheck _ => true
  | .integrityLogRead _ _ => true
  | .spotConvert _ _ => true
  | .settingsWrite _ _ => true
  | .settingsRead _ => true
  | .routeWrite _ _ _ => true

end Sys2Proof
end

