-- ==== Sys2Proof/Tests/Slice0.lean ====
section
/-! SUPPORT. Tests. First the states that they stand on, then the smoke test of WellFormed, then tests of single commands with
the expected values taken from the spec's worked cases and tables, and last one witness for the hypotheses of each statement. -/

namespace Sys2Proof.Tests

set_option Elab.async false

open Sys2Proof Sys2Proof.Machine

/-! ## States -/

def high : GuardLevels := ⟨true, true, true, true, true, true⟩

/-- The state after a command. -/
def after (c : Instr) (s : State) : State :=
  match exec c s with
  | .next t => t
  | .fault _ => s
  | .refused _ => s

def line (speed torque : Int) (st : DriveState) (bus : BusState) : DriveLine := ⟨⟨st, speed, torque, bus⟩, true, true, 0⟩

def calm : DriveLine := line 0 0 .ready .normal

/-- IDLE with the guards good, all drives heard at rest, the reference 10,130 and the circuit vented. -/
def idle0 : State :=
  (((State.resetWith high).withLink ⟨0, ⟨calm, calm, calm⟩, []⟩).withZero
    { resetZero with reference := 10130, refValid := true }).withConv { resetConv with lastP := some 10130 }

def inMode (m : Mode) (s : State) : State := s.withMode { s.mode with mode := m }

def ready0 : State := inMode .ready idle0

/-- Ports open in every state used here. -/
theorem open_of_idle {p : Port} {s : State} (h : (s.ports.get p).frame = .idle) : PortOpen p s := by
  unfold PortOpen; rw [h]; exact fun h => nomatch h

/-- A valid recipe of three steps: forward at 100 rpm, reverse back to step 0 once, and forward; with noise and leak sections. -/
def demoList : List Nat :=
  [3, 5000, 3600, 3700] ++ [0, 0, 100, 800, 10, 20, 1, 1, 1, 1, 255, 0] ++ [1, 1, 120, 600, 10, 20, 1, 0, 1, 1, 0, 1] ++
    [0, 0, 100, 800, 10, 20, 1, 1, 0, 0, 255, 0] ++ List.replicate 252 0 ++ [1, 11, 0, 0, 0, 8, 600, 200] ++
    List.replicate 12 900 ++ List.replicate 116 0 ++ [1, 0, 15000, 10, 1, 20000, 4, 150]

def demo : Items := ⟨⟨demoList⟩, by decide +kernel⟩

def queued : Record := newRecord [0x41] 5 0 0

/-- The record ON TEST. -/
def tested : Record := startRecord demo queued

def withRecord (i : Fin 16) (r : Record) (s : State) : State :=
  s.withQueue { s.queue with slots := s.queue.slots.set i (some r), nextSeq := 1 }

def context (step : Nat) (phase : Phase) : TestContext := { newContext demo with step := step, phase := phase }

/-- A test in a mode, on a context. -/
def test (m : Mode) (c : TestContext) : State := (withRecord 0 tested (inMode m idle0)).withCtx (some c)

def running : State := test .run (context 0 .ramp)

/-- The test with INPUT turning. -/
def turning : State := running.withLink ⟨0, ⟨line 240 0 .active .normal, calm, calm⟩, []⟩

def holding (step : Nat) : State := test .run { context step .hold with stepTimer := .running 0 }

def pausing (k : PauseKind) (phase : Phase) : State :=
  let s := test .pause (context 0 phase)
  s.withMode { s.mode with pauseKind := k }

/-- A valid recipe of one step, without noise and leak sections. -/
def tinyList : List Nat := [1, 5000, 3600, 3700] ++ [0, 0, 100, 800, 10, 20, 1, 0, 0, 0, 255, 0] ++ List.replicate 420 0

def tiny : Items := ⟨⟨tinyList⟩, by decide +kernel⟩

def recipes0 : RecipeStore := { resetStore with recipes := (resetStore.recipes.set 5 ⟨demo, true⟩).set 6 ⟨tiny, true⟩ }

def starting : State := withRecord 0 (newRecord [0x41] 6 0 0) (ready0.withStore recipes0)

/-! ## WellFormed smoke: each check refuses an ill-formed term -/

theorem test_smoke_induct_too_long : (Instr.induct .line (List.replicate 59 0x41) 5).wellFormed = false := by decide

theorem test_smoke_recipeWrite_too_long :
    (Instr.recipeWrite .cell 5 0 0 0 (List.replicate 29 0)).wellFormed = false := by decide

theorem test_smoke_unknownCommand_known : (Instr.unknownCommand .line 0x10).wellFormed = false := by decide

theorem test_wellFormed_accepts :
    (Instr.induct .line [0x41] 5).wellFormed = true ∧ (Instr.unknownCommand .line 0x99).wellFormed = true := by decide

theorem test_no_word_spells_a_command : decodeTableWord 32 0x12345678 = none := rfl

/-! ## Commands: expected values from the spec's worked cases, tables and notes -/

/-- Spec/01, 1.7: the door goes low in a test. -/
theorem test_door_opened :
    let t := after (.guardInputChange .door false) running
    t.mode.mode = .stop ∧ latchValue t .guard = some 0 ∧ (recordAt t 0).map Record.faults = some [⟨.latch .guard, 0, 0⟩] := by
  decide +kernel

/-- Spec/01, R2: a second clamp that opens raises nothing. -/
theorem test_clamp_open_again :
    let s := idle0.withMode { idle0.mode with guards := ⟨true, true, false, true, true, true⟩ }
    mark (after (.guardInputChange .clamp2 false) s) 1 .line = none ∧
      mark (after (.guardInputChange .clamp2 false) idle0) 1 .line = some (.guard ⟨true, true, true, false, true, true⟩) := by
  decide +kernel

/-- R1: a device reset in a test leaves the modes and the records at reset. -/
theorem test_reset_in_test :
    let t := after (.deviceReset high) running
    t.mode.mode = .idle ∧ recordAt t 0 = none ∧ t.ports.line.held.code = .reset := by decide +kernel

/-- R14: NO STOP carries the highest held speed. -/
theorem test_settle_expiry :
    let s := turning.withMode { turning.mode with mode := .settle, target := some .idle, settleTimer := .running 0 }
    latchValue (after .settleTimerExpiry s) .noStop = some 240 ∧ (after .settleTimerExpiry s).mode.mode = .stop := by
  decide +kernel

/-- R80: the expiry of a supply pause enters STOP. -/
theorem test_supply_pause_expiry :
    let s := (pausing .supply .ramp).withSup { resetSup with supplyPause := .running 0 }
    (after .supplyPauseTimerExpiry s).mode.mode = .stop := by decide +kernel

/-- R8: READY with an unheard drive is NOT READY (code 01 of R170). -/
theorem test_ready_not_heard :
    (after (.readyRequest .line) (State.resetWith high)).ports.line.held = ⟨.notReady, []⟩ ∧
      ResultCode.notReady.toNat = 1 := by decide +kernel

theorem test_ready_taken : (after (.readyRequest .line) idle0).mode.mode = .ready := by decide +kernel

/-- Spec/01, 1.8: an IDLE request while running becomes SETTLE. -/
theorem test_idle_degraded :
    let t := after (.idleRequest .line) turning
    t.mode.mode = .settle ∧ mark t 6 .line = some (.mode .idle .degraded) ∧
      ((recordAt t 0).map Record.faults) = some [⟨.aborted, 0, 3⟩] := by decide +kernel

/-- R76, R141: an IDLE request withdraws the TO conversion in progress, whose value R77 does not judge in the READY that follows. -/
theorem test_withdrawn_oil :
    let s := after (.readyRequest .line) (after (.idleRequest .line)
      (ready0.withConv { idle0.conv with inProgress := some ⟨.oil, .to, true⟩ }))
    let t := after (.conversionCompletion 5000) s
    s.mode.mode = .ready ∧ t.mode.mode = .ready ∧ latchSet t .sensor = false ∧ t.sup.lastOil = some 5000 := by decide +kernel

/-- R162: the HOLD right denied refuses PAUSE from the line port with ACCESS. -/
theorem test_pause_denied :
    let s := running.withPorts { running.ports with rights := ⟨false, true, true⟩ }
    (after (.pauseRequest .line) s).ports.line.held.code = .access ∧ (after (.pauseRequest .cell) s).mode.mode = .pause := by
  decide +kernel

/-- R12: RESUME in a supply pause is refused with MODE. -/
theorem test_resume :
    (after (.resumeRequest .line) (pausing .supply .ramp)).ports.line.held.code = .mode ∧
      (after (.resumeRequest .line) (pausing .operator .ramp)).mode.mode = .run := by decide +kernel

/-- R41, its Note: 0 to 1,200 rpm over 2,000 ms gives 1 rpm at the first cycle and 300 rpm at 500 ms; 1,500 rpm to 0 gives 1,499. -/
theorem test_ramp_cycles :
    (after .cycleStart (idle0.withDemand ⟨.fwd, 0, 0, 100, some ⟨0, 1200, 2000, 0⟩⟩)).demand.speed = 1 ∧
      (after .cycleStart (idle0.withDemand ⟨.fwd, 0, 0, 100, some ⟨0, 1200, 2000, 498⟩⟩)).demand.speed = 300 ∧
      (after .cycleStart (idle0.withDemand ⟨.fwd, 0, 0, 100, some ⟨1500, 0, 2000, 0⟩⟩)).demand.speed = 1499 := by
  decide +kernel

/-- R58, R59, R170: the first setpoint message at cycle count 5, enabled, forward, 300 rpm, limit 5,000 Nm (0x1388). -/
theorem test_setpoint_message :
    setpointMessage .input 5 true ⟨.fwd, 300, 0, 5000, none⟩ = [0, 5, 1, 0x01, 0x2C, 0x13, 0x88, 0x32] := by decide +kernel

/-- R45: the end of the ramp enters HOLD, with the timer at HOLD TIME × 100 ms. -/
theorem test_ramp_end_holds :
    let t := after .demandRampEnd (running.withDemand ⟨.fwd, 99, 0, 100, some ⟨0, 100, 20, 20⟩⟩)
    t.demand.speed = 100 ∧ t.ctx.map (fun c => (c.phase, c.stepTimer)) = some (.hold, .running 100) := by decide +kernel

/-- R63, R64: LEFT's third miss is a link loss with value 1. -/
theorem test_third_miss :
    let s := idle0.withLink ⟨214, ⟨calm, ⟨calm.held, true, false, 2⟩, calm⟩, []⟩
    latchValue (after .cycleEnd s) .linkLoss = some 1 ∧ (after .cycleEnd s).link.cycle = 215 := by decide +kernel

/-- R60, R61: a good report of READY and 4 rpm at cycle count 230; the same message is stale against 231. -/
theorem test_status_message :
    let bytes : List Byte := [1, 230, 1, 0, 0, 4, 0, 0, 20]
    (held (after (.statusMessage bytes true) (idle0.withLink ⟨230, ⟨calm, calm, calm⟩, []⟩)) .left).speed = 4 ∧
      (after (.statusMessage bytes true) (idle0.withLink ⟨231, ⟨calm, calm, calm⟩, []⟩)).link =
        ⟨231, ⟨calm, calm, calm⟩, []⟩ := by decide +kernel

/-- R44: the dwell's end turns the direction of step 1, which is REV. -/
theorem test_dwell_end :
    let s := test .run { context 1 (.reverse .dwell) with dwell := .running 0, standstill := .held 4000 }
    (after .dwellTimerExpiry s).demand.direction = .rev := by decide +kernel

/-- R47: the standstill timer's expiry latches NO STOP. -/
theorem test_standstill_expiry :
    let s := (test .run { context 1 (.reverse .standstillWait) with standstill := .running 0 }).withLink turning.link
    latchValue (after .standstillTimerExpiry s) .noStop = some 240 := by decide +kernel

/-- R46: step 1 loops to step 0 once, and the last step ends in FINISH. -/
theorem test_step_expiry :
    ((after .stepTimerExpiry (holding 1)).ctx.map fun c => (c.step, c.loop)) = some (0, 1) ∧
      ((after .stepTimerExpiry (holding 2)).ctx.map TestContext.phase) = some (.finish .rampDown) := by decide +kernel

/-- R55: a run time tick. -/
theorem test_run_time_tick :
    ((recordAt (after .runTimeTick running) 0).bind Record.runIn).map RunInSection.runTime = some 1 := by decide +kernel

/-- R71: INPUT at 5,001 Nm against a limit of 5,000 Nm. -/
theorem test_overload :
    let s := ((running.withDemand { running.demand with limit := 5000 }).withLink
      ⟨0, ⟨line 100 (-5001) .active .normal, calm, calm⟩, []⟩).withSup
      { resetSup with filters := ⟨.running 0, .stopped, .stopped, .stopped⟩ }
    latchValue (after (.filterTimerExpiry .overload) s) .overload = some 5001 := by decide +kernel

/-- R76: the oil request timer restarts and asks for TO. -/
theorem test_oil_request :
    let t := after .oilRequestTimerExpiry (ready0.withSup { resetSup with oilRequest := .running 0 })
    t.sup.oilRequest = .running 50 ∧ t.conv.inProgress = some ⟨.oil, .to, true⟩ := by decide +kernel

/-- R76: the stale timer's expiry latches TEMP STALE with the last reading. -/
theorem test_stale :
    let s := ready0.withSup { resetSup with stale := .running 0, lastOil := some 3300 }
    latchValue (after .staleTimerExpiry s) .tempStale = some 3300 := by decide +kernel

/-- R76: with a reading at the same time taken first, no latch is set. -/
theorem test_stale_reading_first :
    let s := (ready0.withSup { resetSup with stale := .running 0 }).withConv { resetConv with inProgress := some ⟨.oil, .to, true⟩ }
    latchSet (after .staleTimerExpiry s) .tempStale = true ∧
      latchSet (after .staleTimerExpiry (after (.conversionCompletion 3300) s)) .tempStale = false := by decide +kernel

/-- R88: an interval across the wrap of the tick count; a change of direction makes T UNKNOWN. -/
theorem test_pulse_wraps :
    let s := idle0.withNoise { resetNoise with lastPulse := some ⟨0xFFFFFF9C#32, .fwd⟩ }
    (after (.encoderPulse 290#32 .fwd) s).noise.interval = some 390 ∧
      (after (.encoderPulse 290#32 .rev) s).noise.interval = none := by decide +kernel

/-- R89: the stall timer's expiry forgets the last pulse. -/
theorem test_stall :
    let s := idle0.withNoise { resetNoise with lastPulse := some ⟨7#32, .fwd⟩, interval := some 390, stall := .running 0 }
    (after .stallTimerExpiry s).noise.lastPulse = none := by decide +kernel

/-- R88, R89: a pulse at the same tick, taken first, has restarted the timer; 200,000 ticks later the expiry forgets it. -/
theorem test_stall_at_pulse :
    let s := after (.encoderPulse 0#32 .fwd) idle0
    (after .stallTimerExpiry s).noise.lastPulse = some ⟨0#32, .fwd⟩ ∧
      (after .stallTimerExpiry (after (.sampleArrival 200000#32 0#17) s)).noise.lastPulse = none := by decide +kernel

/-- The open block of spec/06, 6.10, with the pulse that took its count to 1,000 at stamp 0. -/
def block0 : Block :=
  { start := 0, direction := .fwd, flank := .drive, pulses := 1000, samples := 9, inPhase := Vector.replicate 4 0
    quadrature := Vector.replicate 4 0, linkMark := false, clipMark := false }

def sampling : State :=
  (holding 0).withNoise
    { lastPulse := some ⟨0, .fwd⟩, interval := some 390, stall := .running 200000, block := some block0, discards := 0 }

/-- The value 400 with its parity bit: 400 has three ones, so the bit is 0. -/
def word400 : SampleWord := 800#17

/-- Spec/06, 6.10: the contribution of one sample. -/
theorem test_sample_contribution :
    let t := after (.sampleArrival 200 word400) sampling
    (t.noise.block.map fun b => (b.inPhase[0], b.quadrature[0], b.samples, b.linkMark)) =
      some (-13100800, 402000, 10, false) := by decide +kernel

theorem test_sine_values : sine 507 = 1005 ∧ sine 763 = -32752 ∧ sine 256 = 32767 ∧ sine 0 = 0 := by decide +kernel

/-- Spec/06, 6.11: the amplitude 775 and the bin 12 of a block. -/
theorem test_block_evaluation :
    amplitude 12000000000 (-5000000000) 1024 = 775 ∧ speedBin demo (600000000 * 8 / 1600000) = some 12 := by
  decide +kernel

/-- R111: a gross leak. -/
theorem test_gross_leak :
    let s := running.withLeak { resetLeak with phase := .fill, attempts := 1, fill := .running 0, lastFill := some 12345 }
    ((recordAt (after .fillTimerExpiry s) 0).map Record.faults) = some [⟨.leakGross, 0, 12345⟩] := by decide +kernel

/-- R119, R115: STOP in VENT withdraws the pending LEAK request, and the request timer runs on. -/
theorem test_stop_in_vent :
    let s := (ready0.withLeak { resetLeak with phase := .vent, request := .running 7 }).withConv
      { resetConv with inProgress := some ⟨.spot, .ta, true⟩, waiting := { resetConv.waiting with leak := some (.single .p) } }
    let t := after (.guardInputChange .estop false) s
    t.leak.phase = .vent ∧ t.leak.request = .running 7 ∧ t.conv.waiting.leak = none := by decide +kernel

/-- R119, R115: a degraded IDLE request enters VENT once, with a request at once. -/
theorem test_degraded_vent :
    let t := after (.idleRequest .line) (turning.withLeak { resetLeak with phase := .measure, attempts := 1 })
    t.leak.phase = .vent ∧ t.leak.request = .running 10 ∧ t.conv.inProgress = some ⟨.leak, .p, true⟩ ∧
      t.leak.outcome = some .notDecided := by decide +kernel

/-- R113: MEASURE begins with a burst of BURST LENGTH conversions of P and then of TA. -/
theorem test_start_burst :
    let s := running.withLeak { resetLeak with phase := .settle, attempts := 1, settle := .running 0 }
    ((after .leakSettleTimerExpiry s).conv.owner.map BurstOwner.remaining) = some [.p, .p, .p, .p, .ta, .ta, .ta, .ta] := by
  decide +kernel

theorem test_end_burst :
    let s := running.withLeak { resetLeak with phase := .measure, attempts := 1, measure := .running 0 }
    (after .measureTimerExpiry s).leak.burst = some .finish := by decide +kernel

/-- R109: the leak request timer in VENT. -/
theorem test_leak_request :
    let t := after .leakRequestTimerExpiry (idle0.withLeak { resetLeak with phase := .vent, request := .running 0 })
    t.conv.inProgress = some ⟨.leak, .p, true⟩ ∧ t.leak.request = .running 10 := by decide +kernel

/-- Spec/07, 7.10: the leak rate 111, and the rising pressure of its variation. -/
theorem test_leak_rate :
    leakRate ⟨15012, 3031⟩ ⟨15020, 3040⟩ 20000 = some 111 ∧ leakRate ⟨15012, 3031⟩ ⟨15060, 3040⟩ 20000 = none ∧
      burstAverage 60048 4 = 15012 ∧ burstAverage 12123 4 = 3031 := by decide +kernel

/-- R126: the check timer's expiry asks for eight conversions of P. -/
theorem test_check_expiry :
    let s := idle0.withZero { idle0.zero with check := some ⟨.capture, .settle⟩, timer := .running 0 }
    ((after .checkTimerExpiry s).conv.owner.map fun o => o.remaining.length) = some 8 := by decide +kernel

/-- Spec/08, 8.8: the eighth conversion of axle 5's check: sum 81,365, average 10,171, FAILED under FLAG. -/
theorem test_failed_check :
    let s := (((test .run (context 2 (.finish .zeroWait))).withZero
      { idle0.zero with
        unchecked := 3, policy := .flag, check := some ⟨.endOfTest, .burst⟩, count := 7, sum := 71200 })).withConv
      { resetConv with inProgress := some ⟨.zero, .p, true⟩, owner := some ⟨.zero, [.p]⟩ }
    let t := after (.conversionCompletion 10165) s
    t.zero.log = [⟨.endOfTest, 10171, 10130, 30, 0, 3, some 0, .flag⟩] ∧ t.mode.mode = .ready ∧
      (recordAt t 0).bind Record.zero = some .suspect := by decide +kernel

/-- Spec/09, 9.8: the completion of LEAK TA 4 grants SPOT by the LOW slot. -/
theorem test_low_slot :
    let s := idle0.withConv
      { resetConv with
        inProgress := some ⟨.leak, .ta, true⟩, owner := some ⟨.leak, [.ta]⟩, high := some .leak, low := some .spot, lowDue := true
        waiting := ⟨none, none, some (.single .to), some (.single .ta)⟩ }
    let t := after (.conversionCompletion 3030) s
    t.conv.inProgress = some ⟨.spot, .ta, true⟩ ∧ t.conv.lowDue = false ∧ t.conv.owner = none := by decide +kernel

/-- R159: a frame's start takes the status byte: after reset the reference is INVALID (bit 0). -/
theorem test_frame_start :
    (after (.frameStart .line) State.reset).ports.line.frame = .assembling 1 ⟨.reset, []⟩ [] := by decide +kernel

/-- R160: seven bits are a FRAME error; STATUS with length 0 answers 20 bytes. -/
theorem test_frame_end :
    (after (.frameEnd .line (List.replicate 7 true)) idle0).ports.line.held = ⟨.frame, []⟩ ∧
      (after (.frameEnd .line (bitsOfBytes [0x21, 0])) idle0).ports.line.held.data.length = 20 := by decide +kernel

/-- R161 step 1. -/
theorem test_unknown : (after (.unknownCommand .cell 0x99) idle0).ports.cell.held = ⟨.unknown, []⟩ := by decide +kernel

/-- Spec/10, 10.8, event 1: slot 0, sequence 0, retest 0. -/
theorem test_induct :
    (after (.induct .line [0x37, 0x30] 5) (idle0.withStore recipes0)).ports.line.held = ⟨.ok, [0, 0, 0, 0]⟩ := by
  decide +kernel

/-- R87: START sets the discarded-block count to 0, with NOISE ENABLED NO too. -/
theorem test_start :
    let t := after (.start .line) (starting.withNoise { resetNoise with discards := 7 })
    t.mode.mode = .run ∧ t.ports.line.held = ⟨.ok, [0, 0, 0, 0]⟩ ∧ t.demand.limit = 5000 ∧ t.noise.discards = 0 := by
  decide +kernel

/-- R149: from the cell port the entry has value 2. -/
theorem test_abort :
    ((recordAt (after (.abort .cell) turning) 0).map Record.faults) = some [⟨.aborted, 0, 2⟩] := by decide +kernel

/-- A decided record. -/
def done : Record := decided none { queued with state := .onTest }

/-- Spec/10, 10.8, events 7 and 10: released first, removed at the ARCHIVE. -/
theorem test_verdict :
    ((recordAt (after (.verdict .line) (withRecord 0 done ready0)) 0).map Record.released) = some true := by decide +kernel

theorem test_archive :
    recordAt (after (.archive .cell 0) (withRecord 0 { done with released := true } ready0)) 0 = none := by decide +kernel

/-- R156: the 290 bytes of NOISE end in chunk 5 with 10 bytes; chunk 6 is RANGE. -/
theorem test_record_read :
    (after (.recordRead .cell 0 3 5) running).ports.cell.held.data.length = 13 ∧
      (after (.recordRead .cell 0 3 6) running).ports.cell.held.code = .range := by decide +kernel

theorem test_status :
    (after (.status .line) idle0).ports.line.held.data =
      [0, 0, 0, 1, 1, 1, 1, 1, 1, 0, 0, 1, 0, 0, 0, 0, 0, 1, 0x27, 0x92] := by decide +kernel

/-- R159: before the first edge DATA-OUT shows the attention; then the status byte, the result code, the length and the reply. -/
theorem test_data_out :
    let s := after (.frameStart .line) (raise (.verdict 2) (reply .line ⟨.ok, [0xA5]⟩ idle0))
    (sentByte s .line 1 = some 0 ∧ sentByte s .line 2 = some 1 ∧ sentByte s .line 3 = some 0xA5 ∧ sentByte s .line 4 = some 0) ∧
      dataOut s .line 0 = some true ∧ dataOut s .line 25 = some true ∧ dataOut s .line 26 = some false := by decide +kernel

/-- Spec/11, 11.5: the VERDICT event of slot 2 is source 5 with one byte of detail. -/
theorem test_event :
    (after (.event .line) (raise (.verdict 2) idle0)).ports.line.held = ⟨.ok, [5, 1, 2]⟩ := by decide +kernel

def guarded : State := storeLatch .linkLoss 1 idle0

/-- R83, R170: LINK LOSS stands tenth, with value 1. -/
theorem test_fault_read :
    ((after (.faultRead .line) guarded).ports.line.held.data.drop 27).take 3 = [1, 0, 1] := by decide +kernel

theorem test_clear_faults :
    latchValue (after (.clearFaults .cell) guarded) .linkLoss = none ∧
      (after (.clearFaults .line) guarded).ports.line.held.code = .access := by decide +kernel

/-- R39, R58: IDLE reached by the clearing of a latch has the demand 0 (log entry 12). -/
theorem test_reached_demand :
    let s := (guarded.withMode { guarded.mode with mode := .stop, target := some .idle }).withDemand
      ⟨.fwd, 300, 0, 100, some ⟨600, 0, 2000, 1000⟩⟩
    let t := after (.clearFaults .cell) s
    t.mode.mode = .idle ∧ t.demand.speed = 0 ∧ t.demand.ramp = none := by decide +kernel

/-- R84: a filter timer whose condition holds starts with its full time at the clearing, and one whose condition does not is stopped. -/
theorem test_clear_restarts :
    let s := ((running.withDemand { running.demand with limit := 5000 }).withLink
      ⟨0, ⟨line 100 (-5001) .active .normal, calm, calm⟩, []⟩).withSup
      { resetSup with filters := ⟨.running 3, .running 3, .stopped, .stopped⟩ }
    (after (.faultReadAndClear .cell) s).sup.filters = ⟨.running 50, .stopped, .stopped, .stopped⟩ := by decide +kernel

theorem test_fault_read_and_clear :
    let t := after (.faultReadAndClear .cell) guarded
    (t.ports.cell.held.data.drop 27).take 3 = [1, 0, 1] ∧ latchValue t .linkLoss = none := by decide +kernel

/-- Spec/04, 4.8, the variation: CELL CLEAR with INPUT coasting keeps STOP with target IDLE. -/
theorem test_cell_clear :
    let t := after (.cellClear .cell) (inMode .stop (turning.withCtx none))
    t.mode.mode = .stop ∧ t.mode.target = some .idle := by decide +kernel

/-- R23: a write of the value that stands there makes the slot INVALID. -/
theorem test_recipe_write :
    let t := after (.recipeWrite .cell 5 0 0 0 [3]) (idle0.withStore recipes0)
    (t.store.recipes[5]).valid = false ∧ item (t.store.recipes[5]).items 0 = 3 := by decide +kernel

/-- R24, R21: GENERAL, four items; a run of five passes the section's end. -/
theorem test_recipe_read :
    (after (.recipeRead .cell 5 0 0 0 4) (idle0.withStore recipes0)).ports.cell.held =
        ⟨.ok, [1, 0, 3, 0x13, 0x88, 0x0E, 0x10, 0x0E, 0x74]⟩ ∧
      (after (.recipeRead .cell 5 0 0 0 5) (idle0.withStore recipes0)).ports.cell.held.code = .range := by decide +kernel

/-- Spec/02, the failing loop structure: steps 2 and 4 of six. -/
def loopList : List Nat :=
  [6, 5000, 3600, 3700] ++ (List.replicate 2 [0, 0, 100, 800, 10, 20, 1, 0, 0, 0, 255, 0]).flatten ++
    [0, 0, 100, 800, 10, 20, 1, 0, 0, 0, 1, 3] ++ [0, 0, 100, 800, 10, 20, 1, 0, 0, 0, 255, 0] ++
    [0, 0, 100, 800, 10, 20, 1, 0, 0, 0, 2, 2] ++ List.replicate 372 0

def loops : Items := ⟨⟨loopList⟩, by decide +kernel⟩

/-- Spec/02, the failing loop structure: STEP 4 LOOP TARGET is reported. -/
theorem test_recipe_validate :
    (after (.recipeValidate .cell 3)
        (idle0.withStore { recipes0 with recipes := recipes0.recipes.set 3 ⟨loops, false⟩ })).ports.cell.held =
      ⟨.recipe, [1, 4, 10]⟩ := by decide +kernel

/-- Spec/02, 2.7: the table with entry 0 at STEP 3 HOLD TIME of recipe 5. -/
def patched : State := idle0.withStore { recipes0 with patches := recipes0.patches.set 0 ⟨true, 5, ⟨1, 3, 6⟩, 450⟩ }

/-- Spec/02, 2.7: entry 4 with the same recipe and target is a DUPLICATE. -/
theorem test_patch_write :
    (after (.patchWrite .cell 4 1 5 1 3 6 500) patched).ports.cell.held.code = .duplicate ∧
      (after (.patchWrite .cell 0 1 5 1 3 6 500) patched).ports.cell.held.code = .ok := by decide +kernel

theorem test_patch_read :
    (after (.patchRead .cell 0) patched).ports.cell.held = ⟨.ok, [1, 5, 1, 3, 6, 0x01, 0xC2]⟩ := by decide +kernel

/-- Spec/02, 2.7, the first START: entry 3 is charged with the failure of OIL SHUTDOWN. -/
theorem test_start_patch :
    let s := withRecord 0 queued
      (ready0.withStore { recipes0 with patches := recipes0.patches.set 3 ⟨true, 5, ⟨0, 0, 2⟩, 3780⟩ })
    (after (.start .line) s).ports.line.held = ⟨.patch, [3, 0, 0, 3]⟩ := by decide +kernel

theorem test_zero_capture :
    (after (.zeroCapture .cell) idle0).zero.check = some ⟨.capture, .settle⟩ ∧
      (after (.zeroCapture .cell) ready0).ports.cell.held.code = .mode := by decide +kernel

theorem test_zero_check :
    (after (.zeroCheck .cell) ready0).zero.timer = .running 2000 ∧
      (after (.zeroCheck .cell) State.reset).ports.cell.held.code = .zero := by decide +kernel

/-- R170: an entry of the integrity log has 11 bytes, with 0xFF for no slot. -/
theorem test_log_read :
    (after (.integrityLogRead .cell 0)
        (idle0.withZero { idle0.zero with log := [⟨.command, 10171, 10130, 30, 2, 1, none, .flag⟩] })).ports.cell.held =
      ⟨.ok, [1, 1, 0x27, 0xBB, 0x27, 0x92, 0, 30, 2, 1, 0xFF, 1]⟩ := by decide +kernel

theorem test_spot_convert :
    (after (.spotConvert .cell 1) idle0).conv.inProgress = some ⟨.spot, .ta, true⟩ ∧
      (after (.spotConvert .cell 3) idle0).ports.cell.held.code = .range := by decide +kernel

def settings : SettingsRecord := ⟨60, 40, 5, 1, 0, 0, 0, 1, 0, 5⟩

theorem test_settings_write :
    (after (.settingsWrite .cell settings) idle0).ports.rights = ⟨true, false, true⟩ ∧
      (after (.settingsWrite .cell { settings with interval := 17 }) idle0).ports.cell.held.code = .range := by
  decide +kernel

/-- R125, R138, R162, R166: the defaults. -/
theorem test_settings_read :
    (after (.settingsRead .cell) State.reset).ports.cell.held.data =
      [0, 50, 0, 30, 4, 0, 0, 0, 0, 1, 0, 3, 3, 3, 3, 3, 1, 1, 3, 2, 2, 2, 2] := by decide +kernel

/-- R165: the mark on a dropped port is cleared. -/
theorem test_route_write :
    let t := after (.routeWrite .cell 1 2) (raise (.halt .run) idle0)
    mark t 0 .line = none ∧ mark t 0 .cell = some (.halt .run) := by decide +kernel

/-- An empty queue lets a millisecond pass (log entry 2). -/
theorem test_idle_step :
    ∃ t, step (idle0.withZero { idle0.zero with timer := .running 2000 }) = .next t ∧ t.zero.timer = .running 1999 ∧
      t.ticks = 10000 := ⟨_, rfl, by decide +kernel, by decide +kernel⟩

/-! ## Witnesses: the hypotheses of each statement are met together

A witness names its statement. Where a statement has clauses, each clause has its own state, at the boundary of its range where
it has one. -/

/-- Some step from a state answers a next state. -/
def Steps (s : State) : Prop := ∃ t, step s = .next t

theorem witness_GuardChangeRecorded : idle0.mode.mode.active = false := by decide +kernel

theorem witness_GuardLossStops :
    driveEnable running = true ∧ running.leak.phase ≠ .vent ∧
      driveEnable (ready0.withLeak { resetLeak with phase := .vent }) = true := by decide +kernel

def supplyOut : State := (pausing .supply .ramp).withSup { resetSup with supplyPause := .running 0 }

theorem witness_SupplyPauseExpiryStops :
    supplyOut.sup.supplyPause.isRunning = true ∧ supplyOut.mode.mode = .pause ∧ supplyOut.mode.pauseKind = .supply ∧
      onTestSlot supplyOut = some 0 ∧ recordAt supplyOut 0 = some tested ∧ tested.faults.length < 6 :=
  ⟨rfl, rfl, rfl, by decide +kernel, rfl, by decide +kernel⟩

def settling : State := turning.withMode { turning.mode with mode := .settle, target := some .idle, settleTimer := .running 0 }

def waiting : State := test .run { context 1 (.reverse .standstillWait) with standstill := .running 0 }

theorem witness_NoStopTimers :
    (settling.mode.mode = .settle ∧ settling.mode.settleTimer.isRunning = true) ∧
      ∃ c, waiting.ctx = some c ∧ c.standstill.isRunning = true ∧ (waiting.mode.mode = .run ∨ waiting.mode.mode = .pause) ∧
        onTestSlot waiting = some 0 ∧ recordAt waiting 0 = some tested :=
  ⟨by decide +kernel, _, rfl, rfl, .inl rfl, by decide +kernel, rfl⟩

theorem witness_ReadyAccepted :
    PortOpen .line idle0 ∧ idle0.mode.mode = .idle ∧ guardsGood idle0.mode.guards = true ∧
      (∀ k, k.stopClass = true → latchSet idle0 k = false) ∧ (∀ d, (idle0.link.drives.get d).received = true) ∧
      (∀ d, (held idle0 d).state ≠ .fault) ∧ (∀ d, (held idle0 d).bus = .normal) ∧ idle0.zero.check = none := by
  refine ⟨open_of_idle rfl, rfl, rfl, ?_, ?_, ?_, ?_, rfl⟩
  · intro k; cases k <;> decide +kernel
  all_goals intro d; cases d <;> decide +kernel

def heldOff : State := running.withPorts { running.ports with rights := ⟨false, true, true⟩ }

theorem witness_ModeRequestsRefused :
    PortOpen .line State.reset ∧ State.reset.ports.rights.hold = true ∧ State.reset.mode.mode = .idle ∧
      guardsGood State.reset.mode.guards = false ∧ (State.reset.link.drives.get .left).received = false ∧
      stopLatchSet guarded = true ∧ guarded.mode.mode = .idle ∧ PortOpen .line guarded ∧ PortOpen .line (inMode .halt idle0) ∧
      (inMode .halt idle0).mode.mode = .halt ∧ PortOpen .cell (pausing .supply .ramp) ∧
      (pausing .supply .ramp).mode.mode = .pause ∧ (pausing .supply .ramp).mode.pauseKind ≠ .operator ∧
      PortOpen .line heldOff ∧ heldOff.ports.rights.hold = false :=
  ⟨open_of_idle rfl, rfl, rfl, rfl, rfl, by decide +kernel, rfl, open_of_idle rfl, open_of_idle rfl, rfl, open_of_idle rfl,
    rfl, by decide +kernel, open_of_idle rfl, rfl⟩

theorem witness_IdleTakenOrKept :
    (PortOpen .line ready0 ∧ ready0.mode.mode = .ready ∧ Settled ready0 ∧ ready0.zero.check = none) ∧
      (PortOpen .line (inMode .stop idle0) ∧ (inMode .stop idle0).mode.mode = .stop ∧
        stopLatchSet (inMode .stop idle0) = false ∧ Settled (inMode .stop idle0)) ∧
      (inMode .stop guarded).mode.mode = .stop ∧ stopLatchSet (inMode .stop guarded) = true :=
  ⟨⟨open_of_idle rfl, rfl, ⟨by decide +kernel, by decide +kernel⟩, rfl⟩,
    ⟨open_of_idle rfl, rfl, by decide +kernel, by decide +kernel, by decide +kernel⟩, rfl, by decide +kernel⟩

/-- A speed of 11 rpm is the lowest that is no standstill. -/
def creeping : State := running.withLink ⟨0, ⟨calm, calm, line (-11) 0 .active .normal⟩, []⟩

theorem not_settled {s : State} (h : (atRest s && vented s) = false) : ¬Settled s := by
  rintro ⟨a, b⟩; rw [a, b] at h; exact absurd h (by decide)

/-- A speed of 11 rpm in a test; and a test at rest and vented. -/
theorem witness_IdleDegraded :
    (PortOpen .line creeping ∧ (creeping.mode.mode = .run ∨ creeping.mode.mode = .pause ∨ creeping.mode.mode = .ready) ∧
      ¬Settled creeping ∧ onTestSlot creeping = some 0 ∧ recordAt creeping 0 = some tested ∧ tested.faults.length < 6) ∧
      PortOpen .line running ∧ (running.mode.mode = .run ∨ running.mode.mode = .pause) ∧ Settled running ∧
      onTestSlot running = some 0 ∧ recordAt running 0 = some tested :=
  ⟨⟨open_of_idle rfl, .inl rfl, not_settled (by decide +kernel), by decide +kernel, rfl, by decide +kernel⟩,
    open_of_idle rfl, .inl rfl, ⟨by decide +kernel, by decide +kernel⟩, by decide +kernel, rfl⟩

/-- A state with the leak test in an attempt and a phase, and its settle timer. -/
def attempt (n : Nat) (x : LeakPhase) (settle : Timer) (s : State) : State :=
  s.withLeak { resetLeak with phase := x, attempts := n, settle := settle }

/-- No attempt; attempt 1 in MEASURE; attempt 2 in SETTLE with its timer running; and attempt 1 in SETTLE with it stopped. -/
theorem witness_PauseEntered :
    ∀ s ∈ [running, attempt 1 .measure .stopped running, attempt 2 .settle (.running 1) running,
        attempt 1 .settle .stopped running],
      (∃ c, PortOpen .cell s ∧ mayHold .cell s = true ∧ s.mode.mode = .run ∧ s.ctx = some c ∧ c.phase.isFinish = false) ∧
        recordAt s 0 = some tested ∧ tested.leak = some newLeak ∧
        (Interruptible s ↔ s.leak.phase = .measure ∨ s.leak.attempts = 2) := by
  have h : ∀ s ∈ [running, attempt 1 .measure .stopped running, attempt 2 .settle (.running 1) running,
      attempt 1 .settle .stopped running], s.ports = running.ports ∧ s.mode = running.mode ∧ s.ctx = running.ctx := by
    intro s hs; fin_cases hs <;> exact ⟨rfl, rfl, rfl⟩
  intro s hs
  obtain ⟨hp, hm, hc⟩ := h s hs
  refine ⟨⟨_, open_of_idle (by rw [hp]; rfl), rfl, by rw [hm]; rfl, hc, rfl⟩, ?_, by decide +kernel, ?_⟩
  all_goals fin_cases hs <;> first | rfl | (unfold Interruptible; decide +kernel)

/-- An operator pause in a step, with attempt 1 of the leak test in a phase and its settle timer stopped. -/
def pausedAt (step : Nat) (x : LeakPhase) : State :=
  let s := attempt 1 x .stopped (test .pause (context step .hold))
  s.withMode { s.mode with pauseKind := .operator }

/-- In every phase of the leak attempt, in a leak-quiet step and in one that is not. -/
theorem witness_ResumeEntered :
    (∀ k x, ∃ c, PortOpen .cell (pausedAt k x) ∧ mayHold .cell (pausedAt k x) = true ∧ (pausedAt k x).mode.mode = .pause ∧
      (pausedAt k x).mode.pauseKind = .operator ∧ (pausedAt k x).ctx = some c ∧ c.phase.moving = true ∧ c.copy = demo ∧
      c.step = k ∧ (pausedAt k x).leak.phase = x ∧ (pausedAt k x).leak.settle = .stopped) ∧
      supplyBad (pausedAt 0 .wait) = false ∧ supplyBad (pausedAt 2 .wait) = false ∧ rampTime demo 0 ≠ 0 ∧ rampTime demo 2 ≠ 0 ∧
      leakQuiet demo 0 = true ∧ leakQuiet demo 2 = false :=
  ⟨fun _ _ => ⟨_, open_of_idle rfl, rfl, rfl, rfl, rfl, rfl, rfl, rfl, rfl, rfl⟩, by decide +kernel⟩

/-- A rising ramp one cycle before its last, a falling one, and one whose next cycle is its last. -/
theorem witness_CycleStartSends :
    (let r : Ramp := ⟨0, 1200, 2000, 1996⟩
    (idle0.withDemand ⟨.fwd, 0, 0, 100, some r⟩).demand.ramp = some r ∧ r.start ≠ r.target ∧ r.elapsed + 2 < r.length ∧
      r.start ≤ r.target) ∧
    (let r : Ramp := ⟨1500, 0, 2000, 0⟩
    r.start ≠ r.target ∧ r.elapsed + 2 < r.length ∧ r.target ≤ r.start) ∧
    (let r : Ramp := ⟨1500, 0, 2000, 1998⟩
    r.length ≤ r.elapsed + 2) ∧ idle0.demand.ramp = none := by decide +kernel

def ramping : State := running.withDemand ⟨.fwd, 98, 0, 5000, some ⟨0, 100, 20, 20⟩⟩

/-- A ramp that ends in a phase of a test. -/
def ending (m : Mode) (c : TestContext) : State :=
  (test m c).withDemand ⟨.fwd, 98, 0, 5000, some ⟨120, 0, 20, 20⟩⟩

/-- The FINISH ramp's end with the leak test done, after a count of decided tests. -/
def finishing (m : Mode) (unchecked : Nat) : State :=
  attempt 1 .done .stopped ((ending m (context 2 (.finish .rampDown))).withZero { idle0.zero with unchecked := unchecked })

/-- No test; RAMP with the step timer UNLOADED, running and frozen; a reversal and FINISH with INPUT turning and at rest; the leak test
done and not; PAUSE; and the last count at which no check is due, and the first at which one is. -/
theorem witness_RampEndReported :
    (∃ r, (idle0.withDemand ⟨.fwd, 0, 0, 100, some ⟨9, 0, 20, 20⟩⟩).demand.ramp = some r ∧ idle0.ctx = none) ∧
      (∃ r c, ramping.demand.ramp = some r ∧ ramping.ctx = some c ∧ c.phase = .ramp ∧ ramping.mode.mode = .run ∧
        c.stepTimer = .unloaded ∧ holdTime c.copy c.step ≠ 0) ∧
      (∀ m c, (ending m c).demand.ramp = some ⟨120, 0, 20, 20⟩ ∧ (ending m c).ctx = some c ∧ (ending m c).mode.mode = m) ∧
      ({ context 0 .ramp with stepTimer := .running 7 }.stepTimer = .running 7 ∧
        { context 0 .ramp with stepTimer := .frozen 7 }.stepTimer = .frozen 7) ∧
      atRest ((ending .run (context 1 (.reverse .rampDown))).withLink turning.link) = false ∧
      atRest (ending .run (context 1 (.reverse .rampDown))) = true ∧
      atRest ((ending .run (context 2 (.finish .rampDown))).withLink turning.link) = false ∧
      (let s := ending .run (context 2 (.finish .rampDown))
      atRest s = true ∧ leakEnabled demo = true ∧ s.leak.phase ≠ .done) ∧
      ((finishing .pause 0).leak.phase = .done ∧ (finishing .pause 0).mode.mode ≠ .run ∧ atRest (finishing .pause 0) = true) ∧
      (onTestSlot (finishing .run 2) = some 0 ∧ recordAt (finishing .run 2) 0 = some tested ∧ tested.leak.isSome = true ∧
        tested.zero = some .unchecked ∧ (finishing .run 2).zero.forced = false ∧ (finishing .run 2).zero.interval = 2 + 1 + 1 ∧
        (finishing .run 3).zero.interval = 3 + 1) := by
  refine ⟨⟨_, rfl, rfl⟩, ⟨_, _, rfl, rfl, rfl, rfl, rfl, by decide +kernel⟩, fun _ _ => ⟨rfl, rfl, rfl⟩, ?_⟩
  decide +kernel

/-- LEFT at its third miss in RUN and in IDLE. -/
def missing (s : State) : State := s.withLink ⟨214, ⟨calm, ⟨calm.held, true, false, 2⟩, calm⟩, []⟩

theorem witness_CycleEndCounts :
    ((missing running).link.drives.get .left).good = false ∧ ((missing running).link.drives.get .input).good = true ∧
      3 ≤ ((after .cycleEnd (missing running)).link.drives.get .left).misses ∧
      (∀ e, driveNumber e < driveNumber .left → ((after .cycleEnd (missing running)).link.drives.get e).misses < 3) ∧
      (missing running).mode.mode.active = true ∧ (missing idle0).mode.mode.active = false ∧
      ∀ d, ((after .cycleEnd idle0).link.drives.get d).misses < 3 := by
  refine ⟨rfl, rfl, by decide +kernel, ?_, rfl, rfl, ?_⟩
  · intro e _; cases e <;> first | decide +kernel | (exfalso; revert ‹driveNumber _ < _›; decide)
  · intro d; cases d <;> decide +kernel

def dwelling : State := test .run { context 1 (.reverse .dwell) with dwell := .running 0, standstill := .held 4000 }

/-- What a message needs not to be discarded, with each item just outside in turn: its check, id, count, state, bus, speed, torque. The
ends of every range form a good one, and 10 rpm is the last speed at rest. A reversal in STANDSTILL WAIT and in DWELL in RUN, a test in RUN
with DRIVE ENABLE on, READY, and a supply pause meet the clauses on what a good one does. -/
theorem witness_StatusJudged :
    (([0, 0, 0, 0, 0, 0, 0, 0] : List Byte).length ≠ 9 ∧
      checkRight [0, 7, 1, 0, 0, 0, 0, 0, 0] = false ∧ 2 < (3 : Byte).toNat ∧ (6 : Byte) ≠ 7 ∧ 3 < (4 : Byte).toNat ∧
      5000 < ((0x13 : Byte) ++ (0x89 : Byte)).toInt ∧ ((0xEC : Byte) ++ (0x77 : Byte)).toInt < -5000 ∧
      ((0x80 : Byte) ++ (0x00 : Byte)).toInt < -32767) ∧
      readStatus 7 (formStatus .right 7 3 2 (-5000) (-32767)) = some (.right, ⟨.fault, -5000, -32767, .high⟩) ∧
      readStatus 7 (formStatus .input 7 0 0 5000 32767) = some (.input, ⟨.off, 5000, 32767, .normal⟩) ∧
      readStatus 7 (formStatus .input 7 0 0 5001 0) = none ∧ ((-10 : Int).natAbs ≤ 10 ∧ ¬(11 : Int).natAbs ≤ 10) ∧
      (∃ c, waiting.ctx = some c ∧ waiting.mode.mode = .run ∧ c.phase = .reverse .standstillWait ∧ c.standstill = .running 0) ∧
      (∃ c, dwelling.ctx = some c ∧ dwelling.mode.mode = .run ∧ c.phase = .reverse .dwell ∧ c.standstill = .held 4000) ∧
      ((∀ e, (held waiting e).bus = .normal) ∧ (∀ e, (held waiting e).speed.natAbs ≤ 10) ∧
        ∀ e, (held dwelling e).bus = .normal) ∧
      (driveEnable running = true ∧ running.mode.mode = .run ∧ latchSet running .driveFault = false ∧
        running.mode.pauseKind ≠ .supply ∧ (∃ c, running.ctx = some c ∧ c.phase ≠ .finish .standstillWait) ∧
        driveEnable ready0 = true ∧ ready0.mode.mode ≠ .run ∧ ready0.mode.mode ≠ .settle ∧ ready0.ctx = none) ∧
      ∃ c, (pausing .supply .ramp).ctx = some c ∧ (pausing .supply .ramp).mode.mode = .pause ∧
        (pausing .supply .ramp).mode.pauseKind = .supply ∧ (∀ e, (held (pausing .supply .ramp) e).bus = .normal) ∧
        c.phase.moving = true ∧ rampTime c.copy c.step ≠ 0 := by
  refine ⟨by decide +kernel, by decide +kernel, by decide +kernel, by decide +kernel, by decide, ⟨_, rfl, rfl, rfl, rfl⟩,
    ⟨_, rfl, rfl, rfl, rfl⟩, ⟨?_, ?_, ?_⟩, ⟨?_, rfl, ?_, ?_, ⟨_, rfl, ?_⟩, ?_, ?_, ?_, rfl⟩, _, rfl, rfl, rfl, ?_, rfl, ?_⟩
  all_goals first | decide +kernel | (intro e; cases e <;> decide +kernel)

theorem witness_DwellAndRunTime :
    (∃ c, dwelling.ctx = some c ∧ c.dwell.isRunning = true ∧ dwelling.mode.mode = .run ∧ rampTime c.copy c.step ≠ 0) ∧
      ∃ r x, dwelling.ctx.isSome = true ∧ onTestSlot dwelling = some 0 ∧ recordAt dwelling 0 = some r ∧ r.runIn = some x :=
  ⟨⟨_, rfl, rfl, rfl, by decide +kernel⟩, _, _, rfl, by decide +kernel, rfl, rfl⟩

/-- Step 1 held with its loops done. -/
def looped : State := test .run { context 1 .hold with stepTimer := .running 0, loop := 1 }

/-- Step 0 held with the direction of step 1 standing already. -/
def turned : State := (holding 0).withDemand { resetDemand with direction := .rev }

/-- Step 1 loops back to step 0, the trigger step, at its first start; step 0 goes on to step 1, in the direction that stands, and in the other
at rest, with INPUT turning and from a setpoint above 0; step 1 with its loops done goes on to step 2, which is not leak-quiet; and
step 2 is the last. -/
theorem witness_StepExpiryMovesOn :
    (∃ c, (holding 1).ctx = some c ∧ c.phase = .hold ∧ c.stepTimer.isRunning = true ∧ (holding 1).mode.mode = .run ∧
      (loopTarget c.copy c.step ≠ 255 ∧ c.loop < loopCount c.copy c.step) ∧ loopTarget c.copy c.step = 0 ∧
      stepDirection c.copy 0 = (holding 1).demand.direction ∧ rampTime c.copy 0 ≠ 0 ∧
      (holding 1).leak.phase = .idle ∧ leakEnabled c.copy = true ∧ c.started[0]?.getD false = false ∧ 0 = triggerStep c.copy) ∧
      (∃ c, turned.ctx = some c ∧ turned.mode.mode = .run ∧ ¬(loopTarget c.copy c.step ≠ 255 ∧ c.loop < loopCount c.copy c.step) ∧
        c.step + 1 < stepCount c.copy ∧ stepDirection c.copy 1 = turned.demand.direction ∧ rampTime c.copy 1 ≠ 0 ∧
        stepDirection c.copy 1 ≠ (holding 0).demand.direction ∧ (holding 0).demand.speed = 0 ∧ atRest (holding 0) = true ∧
        atRest ((holding 0).withLink turning.link) = false ∧
        ((holding 0).withDemand { resetDemand with speed := 100 }).demand.speed ≠ 0 ∧ 1 ≠ triggerStep c.copy ∧
        leakQuiet c.copy 1 = true) ∧
      (∃ c, looped.ctx = some c ∧ c.phase = .hold ∧ c.stepTimer.isRunning = true ∧ looped.mode.mode = .run ∧
        ¬(loopTarget c.copy c.step ≠ 255 ∧ c.loop < loopCount c.copy c.step) ∧ c.step + 1 < stepCount c.copy ∧
        leakQuiet c.copy 2 = false ∧ Interruptible (attempt 1 .measure .stopped looped) ∧
        Interruptible (attempt 2 .settle (.running 1) looped) ∧ ¬Interruptible (attempt 1 .settle .stopped looped)) ∧
      (∃ c, (holding 2).ctx = some c ∧ ¬(loopTarget c.copy c.step ≠ 255 ∧ c.loop < loopCount c.copy c.step) ∧
        ¬c.step + 1 < stepCount c.copy) ∧
      ∀ n x st s, (attempt n x st s).leak.phase = x ∧ (attempt n x st s).ctx = s.ctx ∧ (attempt n x st s).mode = s.mode := by
  refine ⟨⟨_, rfl, ?_⟩, ⟨_, rfl, ?_⟩, ⟨_, rfl, ?_⟩, ⟨_, rfl, ?_⟩, fun _ _ _ _ => ⟨rfl, rfl, rfl⟩⟩
  all_goals first | decide +kernel | (unfold Interruptible; decide +kernel)

def overloaded : State :=
  ((running.withDemand { running.demand with limit := 5000 }).withLink
    ⟨0, ⟨line 100 (-5001) .active .normal, calm, calm⟩, []⟩).withSup
    { resetSup with filters := ⟨.running 0, .stopped, .stopped, .stopped⟩ }

def stale0 : State := ready0.withSup { resetSup with stale := .running 0 }

/-- The expiries; then a test in HOLD with 500 Nm and more, one in RAMP, and no test, for the conditions of the monitors. -/
theorem witness_ExpiriesLatch :
    ((overloaded.sup.filters.get .overload).isRunning = true ∧ latchSet overloaded (monitorLatch .overload) = false ∧
      monitorFails overloaded .overload = some 5001 ∧ overloaded.mode.mode.active = true ∧
      onTestSlot overloaded = some 0 ∧ recordAt overloaded 0 = some tested ∧ tested.faults.length < 6) ∧
      (stale0.sup.stale = .running 0 ∧ 499 < 500 ∧ latchSet stale0 .tempStale = false ∧ stale0.mode.mode.active = true) ∧
      (∃ c, (holding 0).ctx = some c ∧ c.phase = .hold ∧ (holding 0).mode.mode = .run) ∧
      (∃ c, running.ctx = some c ∧ c.phase = .ramp ∧ running.mode.mode = .run) ∧ idle0.ctx = none :=
  ⟨⟨rfl, by decide +kernel, by decide +kernel, rfl, by decide +kernel, rfl, by decide +kernel⟩, by decide +kernel,
    ⟨_, rfl, rfl, rfl⟩, ⟨_, rfl, rfl, rfl⟩, rfl⟩

theorem witness_SetLatchKeepsValue :
    latchSet guarded .linkLoss = true ∧ guarded.mode.mode.active = false ∧
      latchSet (storeLatch .supply 1 running) .supply = true ∧ LatchKind.stopClass .supply = false := by decide +kernel

theorem witness_RequestTimersAsk :
    (ready0.withSup { resetSup with oilRequest := .running 0 }).sup.oilRequest.isRunning = true ∧
      (idle0.withLeak { resetLeak with phase := .vent, request := .running 0 }).leak.request.isRunning = true ∧
      (idle0.withLeak { resetLeak with phase := .vent, request := .running 0 }).leak.phase = .vent ∧
      (running.withLeak { resetLeak with phase := .fill, request := .running 0 }).leak.phase = .fill := by decide +kernel

/-- STOP with the target IDLE, at rest, that the clearing of its latch reaches. -/
def keptIdle : State := guarded.withMode { guarded.mode with mode := .stop, target := some .idle }

/-- A state in SETTLE with the target READY. -/
def settled (s : State) : State := s.withMode { s.mode with mode := .settle, target := some .ready, settleTimer := .running 7 }

/-- No target; IDLE from STOP and READY from SETTLE, at rest and vented; and SETTLE with INPUT turning. -/
theorem witness_LatchesReadAndCleared :
    PortOpen .line (guarded.withPorts { guarded.ports with rights := ⟨true, true, true⟩ }) ∧
      (guarded.withPorts { guarded.ports with rights := ⟨true, true, true⟩ }).ports.rights.clear = true ∧
      PortOpen .cell guarded ∧ guarded.mode.target = none ∧
      (PortOpen .cell keptIdle ∧ keptIdle.mode.target = some .idle ∧ Settled keptIdle ∧ keptIdle.mode.mode = .stop ∧
        (after (.clearFaults .cell) keptIdle).mode.mode ≠ keptIdle.mode.mode) ∧
      (PortOpen .cell (settled idle0) ∧ (settled idle0).mode.target = some .ready ∧ Settled (settled idle0) ∧
        (settled idle0).mode.mode = .settle) ∧ ¬Settled (settled turning) ∧ PortOpen .cell (settled turning) ∧
      (PortOpen .cell overloaded ∧ (after (.clearFaults .cell) overloaded).mode.mode = overloaded.mode.mode ∧
        monitorActive overloaded .overload = true ∧ (monitorFails overloaded .overload).isSome = true ∧
        (monitorFails overloaded .diff).isSome = false ∧ driveEnable overloaded = true ∧ driveEnable guarded = false) :=
  ⟨open_of_idle rfl, rfl, open_of_idle rfl, rfl,
    ⟨open_of_idle rfl, rfl, ⟨by decide +kernel, by decide +kernel⟩, rfl, by decide +kernel⟩,
    ⟨open_of_idle rfl, rfl, ⟨by decide +kernel, by decide +kernel⟩, rfl⟩, not_settled (by decide +kernel), open_of_idle rfl, open_of_idle rfl,
    by decide +kernel⟩

theorem witness_CellClearStops :
    (PortOpen .cell running ∧ Settled running ∧ onTestSlot running = some 0 ∧ recordAt running 0 = some tested ∧
      tested.faults.length < 6) ∧ PortOpen .cell turning ∧ ¬Settled turning :=
  ⟨⟨open_of_idle rfl, ⟨by decide +kernel, by decide +kernel⟩, by decide +kernel, rfl, by decide +kernel⟩,
    open_of_idle rfl, not_settled (by decide +kernel)⟩

/-- No block; the timer one tick short of its full time with an open block; at its full time at the tick of the last pulse, one tick after it,
and with no last pulse. -/
theorem witness_TrackerFollows :
    idle0.noise.block = none ∧ licence idle0 = none ∧
      (let s := sampling.withNoise { sampling.noise with stall := .running 199999 }
      s.noise.stall = .running 199999 ∧ 199999 < 200000 ∧ s.noise.block.isSome = true) ∧
      sampling.noise.stall = .running 200000 ∧ sampling.noise.lastPulse = some ⟨0, .fwd⟩ ∧ (0 : Stamp) = sampling.ticks ∧
      (0 : Stamp) ≠ (sampling.withTicks 1).ticks ∧ idle0.noise.lastPulse = none := by decide +kernel

theorem witness_SampleAccumulates :
    idle0.noise.block = none ∧ idle0.noise.interval = none ∧
      ∃ c, sampling.noise.block = some block0 ∧ sampling.noise.lastPulse = some ⟨0, .fwd⟩ ∧
        sampling.noise.interval = some 390 ∧ sampling.ctx = some c ∧ block0.samples ≠ 65535 :=
  ⟨rfl, rfl, _, rfl, rfl, rfl, rfl, by decide⟩

def blocked (b : Block) : State := sampling.withNoise { sampling.noise with block := some b }

/-- The block one pulse short of its 8 revolutions, with 64 samples, the fewest that count. -/
def lastPulse : Block := { block0 with pulses := 4095, samples := 64 }

/-- A pulse short of full; one of the other direction; a full block of 63 samples; the speeds 3,800 and 599 rpm, outside; 3,799 and 600
rpm, of the highest and the lowest bin; and a block of 65,535 samples. -/
theorem witness_BlockPosts :
    (let rpm (d : Nat) : Nat := 600000000 * blockRevs demo / d
    ∃ c, sampling.ctx = some c ∧ c.copy = demo ∧ sampling.noise.block = some block0 ∧ block0.direction = .fwd ∧
      (block0.pulses + 1).natAbs ≠ 512 * blockRevs demo ∧
      (blocked lastPulse).ctx = some c ∧ (blocked lastPulse).noise.block = some lastPulse ∧ lastPulse.direction = .fwd ∧
      (lastPulse.pulses + 1).natAbs = 512 * blockRevs demo ∧ { lastPulse with samples := 63 }.samples < 64 ∧
      (lastPulse.linkMark = false ∧ lastPulse.clipMark = false ∧ ¬lastPulse.samples < 64) ∧
      1263158#32 ≠ lastPulse.start ∧ (1263158#32 - lastPulse.start).toNat = 1263158 ∧
      (rpm 1263157 - lowBinSpeed demo) / binWidth demo = 16 ∧ rpm 8000001 < lowBinSpeed demo ∧
      (rpm 1263158 - lowBinSpeed demo) / binWidth demo = 15 ∧ rpm 8000000 = lowBinSpeed demo) ∧
    (∃ n, onTestSlot (blocked lastPulse) = some 0 ∧ recordAt (blocked lastPulse) 0 = some tested ∧ tested.noise = some n ∧
      tested.faults.length ≤ 6) ∧
    (blocked { lastPulse with samples := 65535 }).ctx.isSome = true ∧
      (blocked { lastPulse with samples := 65535 }).noise.lastPulse = some ⟨0, .fwd⟩ ∧
      (blocked { lastPulse with samples := 65535 }).noise.interval = some 390 := by
  refine ⟨⟨_, rfl, rfl, rfl, rfl, by decide +kernel, rfl, rfl, rfl, ?_⟩, ⟨newNoise, by decide +kernel, rfl, rfl, ?_⟩, ?_⟩ <;>
    decide +kernel

def filling : State := running.withLeak { resetLeak with phase := .fill, attempts := 1, fill := .running 0 }

theorem witness_FillExpiryIsGross :
    ∃ l, filling.leak.phase = .fill ∧ filling.leak.fill.isRunning = true ∧ onTestSlot filling = some 0 ∧
      recordAt filling 0 = some tested ∧ tested.leak = some l ∧ tested.faults.length < 6 :=
  ⟨newLeak, rfl, rfl, by decide +kernel, rfl, rfl, by decide +kernel⟩

def leakSettling : State := running.withLeak { resetLeak with phase := .settle, attempts := 1, settle := .running 0 }

def measuring : State := running.withLeak { resetLeak with phase := .measure, attempts := 1, measure := .running 0 }

def checking : State := idle0.withZero { idle0.zero with check := some ⟨.capture, .settle⟩, timer := .running 0 }

theorem witness_BurstTimersAsk :
    leakSettling.ctx.isSome = true ∧ leakSettling.leak.phase = .settle ∧ leakSettling.leak.settle.isRunning = true ∧
      measuring.ctx.isSome = true ∧ measuring.leak.phase = .measure ∧ measuring.leak.measure.isRunning = true ∧
      checking.zero.check = some ⟨.capture, .settle⟩ ∧ checking.zero.timer.isRunning = true := by decide +kernel

/-- Spec/07, 7.10; the largest pressures, where the rate is clamped. -/
theorem witness_LeakRateRounds :
    0 < 20000 ∧ 0 < (⟨15012, 3031⟩ : PressureTemp).temperature ∧ leakRate ⟨15012, 3031⟩ ⟨15020, 3040⟩ 20000 = some 111 ∧
      leakRate ⟨65535, 2330⟩ ⟨0, 4230⟩ 1000 = some 65535 := by decide +kernel

def converting : State := idle0.withConv { idle0.conv with inProgress := some ⟨.spot, .p, true⟩ }

def delivering (c : Conversion) (s : State) : State := s.withConv { s.conv with inProgress := some c }

def fillRead : State := delivering ⟨.leak, .p, true⟩ filling

/-- The burst with its conversions of P and the given count of TA done, and its start burst averaged. -/
def burstRead (kind : BurstKind) (ch : Channel) (p ta : Nat) : State :=
  delivering ⟨.leak, ch, true⟩ (measuring.withLeak
    { measuring.leak with burst := some kind, pCount := p, taCount := ta, startValues := some ⟨15012, 3031⟩ })

def ventRead (s : State) : State := delivering ⟨.leak, .p, true⟩ (s.withLeak { resetLeak with phase := .vent })

def oilRead (s : State) : State := delivering ⟨.oil, .to, true⟩ (s.withSup { s.sup with oilCount := 1 })

def zeroRead (count : Nat) : State :=
  delivering ⟨.zero, .p, true⟩ (idle0.withZero { idle0.zero with check := some ⟨.command, .burst⟩, count := count })

theorem witness_CompletionSetsPressure :
    converting.conv.inProgress = some ⟨.spot, .p, true⟩ ∧
    (∃ c, fillRead.conv.inProgress = some ⟨.leak, .p, true⟩ ∧ fillRead.ctx = some c ∧ fillRead.leak.phase = .fill ∧
      fillRead.leak.burst = none ∧ (14999 : Word16).toNat < fillTarget c.copy ∧ fillTarget c.copy ≤ (15000 : Word16).toNat) ∧
    (∀ kind, ∃ c l,
      (burstRead kind .ta 4 3).conv.inProgress = some ⟨.leak, .ta, true⟩ ∧ (burstRead kind .ta 4 3).ctx = some c ∧
      (burstRead kind .ta 4 3).leak.phase = .measure ∧ (burstRead kind .ta 4 3).leak.burst = some kind ∧
      (burstRead kind .ta 4 3).leak.pCount = burstLength c.copy ∧
      (burstRead kind .ta 4 3).leak.taCount + 1 = burstLength c.copy ∧ (burstRead kind .p 3 0).leak.taCount ≠ burstLength c.copy ∧
      (burstRead kind .ta 4 2).leak.taCount + 1 ≠ burstLength c.copy ∧ (burstRead kind .ta 4 3).leak.rangeMark = false ∧
      (burstRead kind .ta 4 3).leak.startValues = some ⟨15012, 3031⟩ ∧ onTestSlot (burstRead kind .ta 4 3) = some 0 ∧
      recordAt (burstRead kind .ta 4 3) 0 = some tested ∧ tested.leak = some l ∧ tested.faults.length < 6) ∧
    ((ventRead idle0).conv.inProgress = some ⟨.leak, .p, true⟩ ∧ (ventRead idle0).leak.phase = .vent ∧
      (if idle0.zero.refValid then idle0.zero.reference else 10133) + idle0.zero.ventOffset = (10180 : Word16).toNat ∧
      ∃ c, (ventRead (pausing .operator (.finish .ventWait))).ctx = some c ∧ c.phase = .finish .ventWait) ∧
    (driveEnable (oilRead idle0) = false ∧ driveEnable (oilRead ready0) = true ∧ (oilRead ready0).ctx = none ∧
      (oilRead ready0).conv.inProgress = some ⟨.oil, .to, true⟩ ∧ driveEnable (oilRead running) = true ∧
      ∃ c y, (oilRead running).ctx = some c ∧ oilPrewarn c.copy = (3600 : Word16).toNat ∧
        oilShutdown c.copy = (3700 : Word16).toNat ∧ (oilRead running).sup.oilCount ≠ 0 ∧ tested.runIn = some y) ∧
    (driveEnable (delivering ⟨.oil, .to, false⟩ running) = true ∧ (delivering ⟨.oil, .to, false⟩ running).ctx.isSome = true ∧
      onTestSlot (delivering ⟨.oil, .to, false⟩ running) = some 0 ∧
      recordAt (delivering ⟨.oil, .to, false⟩ running) 0 = some tested) ∧
    ((zeroRead 7).conv.inProgress = some ⟨.zero, .p, true⟩ ∧ (zeroRead 7).zero.check = some ⟨.command, .burst⟩ ∧
      (zeroRead 7).leak.phase ≠ .vent ∧ (zeroRead 7).mode.target = none ∧ (zeroRead 7).zero.count + 1 = 8 ∧
      (zeroRead 0).zero.count + 1 ≠ 8) ∧
    (delivering ⟨.leak, .ta, false⟩ running).conv.inProgress = some ⟨.leak, .ta, false⟩ ∧
    (delivering ⟨.zero, .p, false⟩ idle0).leak.phase ≠ .vent ∧ (delivering ⟨.zero, .p, false⟩ idle0).mode.target = none := by
  refine ⟨rfl, ⟨_, rfl, rfl, rfl, rfl, ?_⟩, fun kind => ⟨_, newLeak, rfl, rfl, rfl, rfl, ?_⟩, ⟨rfl, rfl, ?_, _, rfl, rfl⟩,
    ⟨?_, ?_, rfl, rfl, ?_, _, newRunIn, rfl, ?_⟩, ⟨?_, rfl, ?_, rfl⟩, ⟨rfl, rfl, ?_⟩, rfl, ?_⟩
  · decide +kernel
  · cases kind <;> decide +kernel
  all_goals decide +kernel

/-- The arbiter of spec/09, 9.8, at t = 1.6, at t = 1.8 and at t = 2.0; a burst's owner with and without a conversion left; a SPOT request to
an idle converter and to a busy one; and completions of SPOT and of LEAK. -/
theorem witness_GrantFollowsClasses :
    (∃ a b : Arbiter, a.owner = none ∧ a.inProgress = none ∧ (∀ r, a.waiting.get r ≠ some (.burst [])) ∧ a.lowDue = true ∧
      (a.waiting.get .spot).isSome = true ∧ a.classes.get .spot = .low ∧ (a.waiting.get .oil).isSome = true ∧
      a.classes.get .oil = .high ∧ b.lowDue = false ∧ (b.waiting.get .oil).isSome = true ∧
      (∀ r, (resetConv.waiting.get r).isSome = false)) ∧
    { resetConv with owner := some ⟨.zero, [.p, .p]⟩ }.owner = some ⟨.zero, [.p, .p]⟩ ∧
      { resetConv with owner := some ⟨.zero, []⟩ }.owner = some ⟨.zero, []⟩ ∧
      (PortOpen .cell idle0 ∧ Channel.code .to = (2 : Byte).toNat ∧ idle0.conv.spotMasked = false ∧
        idle0.conv.waiting.spot = none ∧ idle0.conv.inProgress = none ∧ idle0.conv.owner = none) ∧
      ((oilRead ready0).conv.inProgress = some ⟨.oil, .to, true⟩ ∧ (oilRead ready0).conv.spotMasked = false ∧
        (oilRead ready0).conv.waiting.spot = none ∧ PortOpen .cell (oilRead ready0)) ∧
      (delivering ⟨.spot, .ta, true⟩ idle0).conv.inProgress = some ⟨.spot, .ta, true⟩ ∧
      (delivering ⟨.spot, .ta, true⟩ idle0).conv.owner = none := by
  refine ⟨⟨{ resetConv with lowDue := true, high := some .leak, low := some .spot, waiting := ⟨none, none, some (.single .to), some (.single .ta)⟩ },
    { resetConv with high := some .leak, waiting := ⟨none, none, some (.single .to), none⟩ }, rfl, rfl, ?_, rfl, rfl, rfl, rfl, rfl, rfl,
    rfl, ?_⟩, rfl, rfl, ⟨open_of_idle rfl, rfl, rfl, rfl, rfl, rfl⟩, ⟨rfl, rfl, rfl, open_of_idle rfl⟩, rfl, rfl⟩ <;>
    intro r <;> cases r <;> decide

theorem none_on_test {s : State} (h : (allSlots.all fun i => !slotHas s (fun r => r.state == .onTest) i) = true) :
    ∀ i, ¬OnTest s i := by
  rintro i ⟨r, hr, ht⟩
  have := List.all_eq_true.mp h i (mem_allSlots i)
  simp [slotHas, hr, ht] at this

theorem witness_ConverterCommands :
    PortOpen .cell idle0 ∧ idle0.mode.mode = .idle ∧ idle0.zero.check = none ∧ (∀ i, ¬OnTest idle0 i) ∧
      idle0.zero.refValid = true ∧ idle0.conv.spotMasked = false ∧ idle0.conv.waiting.spot = none ∧
      idle0.conv.inProgress = none ∧ Channel.code .to = (2 : Byte).toNat ∧ 2 < (3 : Byte).toNat ∧
      converting.conv.inProgress = some ⟨.spot, .p, true⟩ ∧ (∃ i, OnTest running i) ∧ checking.zero.check ≠ none ∧
      State.reset.zero.refValid = false ∧ (∀ i, ¬OnTest State.reset i) :=
  ⟨open_of_idle rfl, rfl, rfl, none_on_test (by decide +kernel), rfl, rfl, rfl, rfl, by decide, by decide, rfl,
    ⟨0, tested, rfl, rfl⟩, by decide +kernel, rfl, none_on_test (by decide +kernel)⟩

/-- Spec/08, 8.8: an average of 41 above the reference, against a tolerance of 30; and the largest and smallest averages that are good. -/
theorem witness_ChecksJudged :
    (let s (sum : Nat) := idle0.withZero { idle0.zero with policy := .flag, sum := sum }
    let far (s : State) : Nat := ((s.zero.sum + 4) / 8 - s.zero.reference) + (s.zero.reference - (s.zero.sum + 4) / 8)
    (s 0).zero.policy = .flag ∧ idle0.zero.policy = .halt ∧ (s 0).zero.tolerance = 30 ∧ far (s 81365) = 41 ∧
      far (s 81288) = 31 ∧ far (s 81280) = 30 ∧ far (s 80800) = 30) ∧
    (let s := test .run (context 2 (.finish .zeroWait))
    ∃ c, s.mode.mode = .run ∧ s.ctx = some c ∧ c.phase = .finish .zeroWait ∧ onTestSlot s = some 0 ∧
      recordAt s 0 = some tested ∧ tested.zero = some .unchecked ∧ tested.faults.length < 6) :=
  ⟨by decide +kernel, _, rfl, rfl, rfl, by decide +kernel, rfl, by decide +kernel, by decide +kernel⟩

/-- A record of the same serial, collected, with the highest retest number that leaves room for one more. -/
def retesting : State := withRecord 1 { done with released := true, retest := 2 } (idle0.withStore recipes0)

theorem of_slots {s : State} {P : Fin 16 → Record → Prop} [∀ i r, Decidable (P i r)]
    (h : (allSlots.all fun i => match recordAt s i with | some r => decide (P i r) | none => true) = true) :
    ∀ i r, recordAt s i = some r → P i r := by
  intro i r hr
  have := List.all_eq_true.mp h i (mem_allSlots i)
  simpa [hr] using this

theorem witness_InductPlaces :
    ∃ x, PortOpen .line retesting ∧ retesting.mode.mode ≠ .halt ∧ 1 ≤ [(0x41 : Byte)].length ∧ [(0x41 : Byte)].length ≤ 20 ∧
      (∀ b ∈ [(0x41 : Byte)], 0x21 ≤ b.toNat ∧ b.toNat ≤ 0x7E) ∧
      retesting.store.recipes[(5 : Byte).toNat]? = some x ∧ x.valid = true ∧ recordAt retesting 0 = none ∧
      (∀ j, j < (0 : Fin 16) → recordAt retesting j ≠ none) ∧
      ∀ j r, recordAt retesting j = some r → r.serial = [(0x41 : Byte)] →
        r.state = .decided ∧ r.released = true ∧ r.retest < 3 :=
  ⟨⟨demo, true⟩, open_of_idle rfl, by decide +kernel, by decide, by decide, by decide, rfl, rfl,
    by decide +kernel, fun j h => absurd h (Fin.not_lt_zero j), of_slots (by decide +kernel)⟩

def full : State := idle0.withQueue { slots := Vector.replicate 16 (some queued), nextSeq := 16 }

/-- A collected record of the serial with the highest retest number. -/
def retested : State := withRecord 1 { done with released := true, retest := 3 } (idle0.withStore recipes0)

theorem witness_LineCommandsRefused :
    PortOpen .line starting ∧ starting.mode.mode = .ready ∧ oldestSlot ready0 (fun r => r.state == .queued) = none ∧
      oldestSlot starting (fun r => r.state == .queued) = some 0 ∧ recordAt starting 0 = some (newRecord [0x41] 6 0 0) ∧
      serialGood [0x41] = true ∧ recipeValid recipes0 5 = true ∧ recipeValid recipes0 4 = false ∧
      (∀ i, recordAt full i ≠ none) ∧ (0x7E : Byte).toNat < (0x7F : Byte).toNat ∧
      (firstFailure (patchedCopy { recipes0 with patches := recipes0.patches.set 3 ⟨true, 5, ⟨0, 0, 2⟩, 3780⟩ } 5 demo)).map
        RecipeCheck.reported = some ⟨0, 0, 3⟩ ∧
      recordAt starting 1 = none ∧
      oldestSlot starting (fun r => r.serial == [0x41] && !(r.state == .decided && r.released)) = some 0 ∧
      PortOpen .line retested ∧ retested.mode.mode ≠ .halt ∧ recordAt retested 0 = none ∧
      (∀ j r, recordAt retested j = some r → r.serial = [0x41] → r.state = .decided ∧ r.released = true) ∧
      (∃ j r, recordAt retested j = some r ∧ r.serial = [0x41] ∧ 3 ≤ r.retest) ∧ State.reset.zero.refValid = false :=
  ⟨open_of_idle rfl, rfl, by decide +kernel, by decide +kernel, by decide +kernel, by decide, by decide +kernel,
    by decide +kernel, by decide +kernel, by decide, by decide +kernel, by decide +kernel, by decide +kernel,
    open_of_idle rfl, by decide +kernel, by decide +kernel, of_slots (by decide +kernel),
    ⟨1, { done with released := true, retest := 3 }, rfl, rfl, by decide⟩, rfl⟩

/-- Entries 3 and 5 of recipe 5, both enabled; entry 5 is the last that names PREWARN, and a check that examines it is charged to entry
3 where that names an examined item too. -/
theorem witness_StartRuns :
    (let st : RecipeStore := { recipes0 with patches := (recipes0.patches.set 3 ⟨true, 5, ⟨0, 0, 3⟩, 3500⟩).set 5 ⟨true, 5, ⟨0, 0, 2⟩, 3600⟩ }
    (st.patches[(5 : Fin 8)]).enabled = true ∧ (st.patches[(5 : Fin 8)]).recipe = 5 ∧
      itemOffset (st.patches[(5 : Fin 8)]).target = some 2 ∧ item (patchedCopy st 5 demo) 2 = 3600 ∧
      (firstFailure (patchedCopy st 5 demo)).map RecipeCheck.examined = some [⟨0, 0, 2⟩, ⟨0, 0, 3⟩] ∧
      (firstFailure (patchedCopy st 5 demo)).bind (chargedPatch st 5) = some 3) ∧
    PortOpen .line starting ∧ starting.mode.mode = .ready ∧ (∀ j, ¬OnTest starting j) ∧
      oldestSlot starting (fun r => r.state == .queued) = some 0 ∧ recordAt starting 0 = some (newRecord [0x41] 6 0 0) ∧
      starting.zero.refValid = true ∧ starting.store.recipes[6]? = some ⟨tiny, true⟩ ∧
      firstFailure (patchedCopy starting.store 6 tiny) = none ∧ supplyBad starting = false :=
  ⟨by decide +kernel, open_of_idle rfl, rfl, none_on_test (by decide +kernel), by decide +kernel, rfl, rfl, rfl,
    by decide +kernel, by decide +kernel⟩

theorem witness_AbortSettles :
    (PortOpen .line turning ∧ turning.ports.rights.abort = true ∧ onTestSlot turning = some 0 ∧
      recordAt turning 0 = some tested ∧ tested.faults.length < 6 ∧ ¬Settled turning ∧ onTestSlot idle0 = none) ∧
      PortOpen .line running ∧ running.ports.rights.abort = true ∧ onTestSlot running = some 0 ∧
      recordAt running 0 = some tested ∧ Settled running :=
  ⟨⟨open_of_idle rfl, rfl, by decide +kernel, rfl, by decide +kernel, not_settled (by decide +kernel), by decide +kernel⟩,
    open_of_idle rfl, rfl, by decide +kernel, rfl, ⟨by decide +kernel, by decide +kernel⟩⟩

/-- A test of the one-step recipe that ends without a fault; a peak one above its limit, one at it with its coverage set, and one with it
clear; and a record ON TEST that is UNCHECKED. -/
theorem witness_VerdictDerived :
    (∃ r : Record, (decided (some (newContext tiny)) r).verdict = some .pass) ∧
      (∃ k : Fin 128, order demo (k.val / 32) ≠ 0 ∧ limitAt demo k.val = 900 ∧
        { newNoise with peaks := newNoise.peaks.set 0 901 }.peaks[k] = 901 ∧
        { newNoise with peaks := newNoise.peaks.set 0 900 }.peaks[k] = 900 ∧
        newNoise.coverage[k.val % 32]?.getD false = false) ∧
      (∃ n l, tested.noise = some n ∧ tested.leak = some l ∧ l.outcome = none) ∧
      ∃ c, PortOpen .cell running ∧ running.ctx = some c ∧ onTestSlot running = some 0 ∧ recordAt running 0 = some tested ∧
        tested.faults.length < 6 ∧ tested.zero = some .unchecked :=
  ⟨⟨{ queued with state := .onTest, runIn := some newRunIn }, by decide +kernel⟩, ⟨0, by decide +kernel⟩,
    ⟨newNoise, newLeak, by decide +kernel⟩, _, open_of_idle rfl, rfl, by decide +kernel, rfl, by decide +kernel, by decide +kernel⟩

def collecting : State := withRecord 0 done ready0

theorem witness_CollectionMarks :
    PortOpen .line collecting ∧ oldestSlot collecting (fun r => r.state == .decided && !r.released) = some 0 ∧
      recordAt collecting 0 = some done ∧ oldestSlot ready0 (fun r => r.state == .decided && !r.released) = none ∧
      PortOpen .cell collecting ∧ done.state = .decided ∧ recordAt collecting 1 = none ∧ tested.state ≠ .decided ∧
      recordAt running 0 = some tested ∧ 16 ≤ (16 : Byte).toNat :=
  ⟨open_of_idle rfl, by decide +kernel, rfl, by decide +kernel, open_of_idle rfl, rfl, by decide +kernel, by decide +kernel,
    rfl, by decide⟩

theorem witness_RecordReadChunks :
    ∃ bs, PortOpen .cell running ∧ recordAt running 0 = some tested ∧ sectionBytes tested 3 = some bs ∧ bs.length = 290 ∧
      bs.length ≤ 56 * (6 : Byte).toNat ∧ 56 * (5 : Byte).toNat < bs.length ∧ sectionBytes queued 4 = none ∧
      recordAt running 15 = none ∧ PortOpen .line running ∧ 1 < (2 : Byte).toNat :=
  ⟨noiseBytes newNoise, open_of_idle rfl, rfl, rfl, by decide +kernel, by decide +kernel,
    by decide +kernel, by decide +kernel, by decide +kernel, open_of_idle rfl, by decide⟩

/-- A run of 27 limits that ends with its section, and one that passes it. -/
theorem witness_RecipesWrittenAndRead :
    PortOpen .cell idle0 ∧ itemOffset ⟨2, 101, 5⟩ = some 401 ∧ 401 + 27 ≤ sectionEnd 2 ∧ sectionEnd 2 < 402 + 27 ∧
      itemOffset ⟨2, 102, 5⟩ = some 402 ∧ itemOffset ⟨1, 24, 0⟩ = none ∧ (11 : Fin 12).val = (11 : Byte).toNat ∧
      12 ≤ (12 : Byte).toNat := ⟨open_of_idle rfl, by decide⟩

theorem witness_ValidationJudges :
    PortOpen .cell (idle0.withStore recipes0) ∧ (6 : Fin 12).val = (6 : Byte).toNat ∧ 12 ≤ (12 : Byte).toNat ∧
      firstFailure tiny = none ∧ firstFailure demo = none ∧ noiseEnabled demo = true ∧ leakEnabled demo = true ∧
      (firstFailure loops).map RecipeCheck.reported = some ⟨1, 4, 10⟩ ∧ stepCount tiny = 1 ∧ loopTarget loops 2 ≠ 255 := by
  refine ⟨open_of_idle rfl, ?_⟩
  decide +kernel

theorem witness_PatchesWrittenAndRead :
    PortOpen .cell patched ∧ (7 : Fin 8).val = (7 : Byte).toNat ∧ 8 ≤ (8 : Byte).toNat ∧ (1 : Byte).toNat ≤ 1 ∧
      (11 : Byte).toNat < 12 ∧ itemOffset ⟨1, 3, 6⟩ ≠ none ∧ itemOffset ⟨3, 0, 8⟩ = none ∧
      (patched.store.patches[(0 : Fin 8)]).enabled = true ∧ (patched.store.patches[(0 : Fin 8)]).target = ⟨1, 3, 6⟩ :=
  ⟨open_of_idle rfl, by decide, by decide, by decide, by decide, by decide, by decide, by decide +kernel, by decide +kernel⟩

theorem witness_SnapshotsAnswer :
    PortOpen .line idle0 ∧ PortOpen .cell idle0 ∧ (7 : Byte).toNat ≤ 7 ∧ 7 < (8 : Byte).toNat :=
  ⟨open_of_idle rfl, open_of_idle rfl, by decide, by decide⟩

/-- VERDICT (source 5) and MODE (source 7) are set, and VERDICT is first. -/
def marked : State := raise (.mode .idle .reached) (raise (.verdict 2) idle0)

theorem witness_EventTakesFirst :
    PortOpen .line marked ∧ mark marked 4 .line = some (.verdict 2) ∧ (∀ j, j < (4 : Fin 11) → mark marked j .line = none) ∧
      ∀ i, mark idle0 i .line = none :=
  ⟨open_of_idle rfl, by decide +kernel, by decide +kernel, by decide +kernel⟩

theorem witness_SettingsWrittenAndRead :
    PortOpen .cell idle0 ∧ idle0.mode.mode = .idle ∧ (∀ i, ¬OnTest idle0 i) ∧ settingsGood settings = true ∧
      settingsGood ⟨10, 1, 1, 0, 0, 0, 0, 0, 0, 0⟩ = true ∧ settingsGood ⟨500, 500, 16, 1, 1, 1, 1, 1, 1, 7⟩ = true ∧
      settingsGood ⟨9, 1, 1, 0, 0, 0, 0, 0, 0, 0⟩ = false ∧ PortOpen .cell running ∧ running.mode.mode = .run :=
  ⟨open_of_idle rfl, rfl, none_on_test (by decide +kernel), by decide +kernel, by decide +kernel, by decide +kernel,
    by decide +kernel, open_of_idle rfl, rfl⟩

theorem witness_RouteReplaced :
    PortOpen .cell marked ∧ (10 : Fin 11).val + 1 = (11 : Byte).toNat ∧ Route.code .both = (3 : Byte).toNat ∧
      11 < (12 : Byte).toNat ∧ 3 < (4 : Byte).toNat := ⟨open_of_idle rfl, by decide⟩

theorem witness_FramesJudged :
    (∃ st r, ((after (.frameStart .line) (reply .line ⟨.ok, [0xA5]⟩ idle0)).ports.get .line).frame = .assembling st r [] ∧
      r.data[0]? = some 0xA5 ∧ r.data.length ≤ 1) ∧
    PortOpen .line idle0 ∧ (idle0.ports.get .line).frame.bits = [] ∧ 60 < (61 : Byte).toNat ∧
      ([] : List Byte).length < (1 : Byte).toNat ∧ (∀ c, Command.code c ≠ 0x99) ∧ (60 : Byte).toNat ≤ 60 := by
  refine ⟨⟨_, _, rfl, by decide +kernel, by decide +kernel⟩, open_of_idle rfl, rfl, by decide, by decide, ?_, by decide⟩
  intro c; cases c <;> decide

theorem witness_FrameEndRunsRequest :
    PortOpen .line idle0 ∧ (idle0.ports.get .line).frame.bits = [] ∧ ([] : List Byte).length ≤ 60 ∧
      allowed idle0.ports.rights .line .cellClear = false ∧ allowed idle0.ports.rights .line .start = true ∧
      decodeRequest .line .start [] = some (.start .line) ∧ decodeRequest .line .start [0] = none :=
  ⟨open_of_idle rfl, rfl, by decide, rfl, rfl, rfl, rfl⟩

/-- Sequence numbers across the wrap of the counter. -/
theorem witness_OldestIsFirst :
    let s := withRecord 3 { queued with seq := 65535 } (withRecord 0 queued idle0)
    (∀ i r, recordAt s i = some r → (r.seq - 65535#16).toNat ≤ 32767) ∧ oldestSlot s (fun r => r.state == .queued) = some 3 :=
  ⟨of_slots (by decide +kernel), by decide +kernel⟩

theorem forall_marks {P : Fin 11 → Port → Prop} (h : ∀ i, P i .line ∧ P i .cell) : ∀ i p, P i p := by
  intro i p; cases p
  · exact (h i).1
  · exact (h i).2

theorem witness_MarksStayRouted : MarksRouted marked ∧ (mark marked 4 .line).isSome = true ∧ Steps marked :=
  ⟨forall_marks (by decide +kernel), by decide +kernel, _, rfl⟩

theorem witness_PatchesStayDistinct : PatchesDistinct patched ∧ Steps patched :=
  ⟨by unfold PatchesDistinct; decide +kernel, _, rfl⟩

/-- A test that an ABORT is about to end. -/
def aborting : State := turning.withPending [.abort .cell]

theorem witness_OneTestStays : OneTest aborting ∧ aborting.ctx.isSome = true ∧ Steps aborting := by
  refine ⟨⟨?_, ⟨fun _ => rfl, fun _ => ⟨0, tested, rfl, rfl⟩⟩, by decide +kernel⟩, rfl, _, rfl⟩
  have h : ∀ i r, recordAt aborting i = some r → i = 0 := of_slots (by decide +kernel)
  rintro i j ⟨a, ha, -⟩ ⟨b, hb, -⟩
  rw [h i a ha, h j b hb]

/-- OVERLOAD's timer runs, and no other. -/
theorem witness_MonitorsStayJudged :
    MonitorsJudged overloaded ∧ (overloaded.sup.filters.get .overload).isRunning = true ∧ Steps overloaded := by
  refine ⟨?_, by decide +kernel, _, rfl⟩
  intro m; cases m <;> decide +kernel

theorem witness_DirectionTurnsAtRest :
    DwellAtRest dwelling ∧ ∃ t, step (dwelling.withPending [.dwellTimerExpiry]) = .next t ∧
      t.demand.direction ≠ (dwelling.withPending [.dwellTimerExpiry]).demand.direction := by
  refine ⟨?_, _, rfl, by decide +kernel⟩
  intro c hc _
  cases hc
  exact ⟨rfl, by decide +kernel⟩

theorem witness_IdleOnlyAtRest :
    ∃ t, step (ready0.withPending [.idleRequest .line]) = .next t ∧ ready0.mode.mode ≠ .idle ∧ t.mode.mode = .idle :=
  ⟨_, rfl, by decide +kernel, by decide +kernel⟩

theorem witness_DecidedStays : Steps collecting ∧ recordAt collecting 0 = some done ∧ done.state = .decided :=
  ⟨⟨_, rfl⟩, rfl, rfl⟩

end Sys2Proof.Tests
end

section
/-! SUPPORT. Writing and reading the Recipe Store (spec/02, R22 to R24 and R31 to R33). -/

namespace Sys2Proof.Machine

/-! ## Requests inside a port's rights -/

/-- A request inside its port's rights gets the owning block's result (R161). -/
theorem portRequest_of_open {p : Port} {c : Command} {s : State} (hopen : PortOpen p s)
    (hright : allowed s.ports.rights p c = true) (act : State → Reply × State) :
    portRequest p c true act s = reply p (act s).1 (act s).2 := by
  have hframe : (s.ports.get p).frame ≠ .discarded := hopen
  simp [portRequest, hframe, hright]

theorem exec_recipeWrite_cell {s : State} (hopen : PortOpen .cell s) (recipe sect index field : Byte)
    (values : List Word16) :
    exec (.recipeWrite .cell recipe sect index field values) s =
      .next (reply .cell (recipeWriteDecide recipe sect index field values s).1
        (recipeWriteDecide recipe sect index field values s).2) :=
  congrArg Host.Outcome.next (portRequest_of_open hopen rfl _)

theorem exec_recipeRead_cell {s : State} (hopen : PortOpen .cell s) (recipe sect index field count : Byte) :
    exec (.recipeRead .cell recipe sect index field count) s =
      .next (reply .cell (recipeReadDecide recipe sect index field count s).1
        (recipeReadDecide recipe sect index field count s).2) :=
  congrArg Host.Outcome.next (portRequest_of_open hopen rfl _)

theorem exec_patchWrite_cell {s : State} (hopen : PortOpen .cell s) (entry enabled recipe sect index field : Byte)
    (value : Word16) :
    exec (.patchWrite .cell entry enabled recipe sect index field value) s =
      .next (reply .cell (patchWriteDecide entry enabled recipe sect index field value s).1
        (patchWriteDecide entry enabled recipe sect index field value s).2) :=
  congrArg Host.Outcome.next (portRequest_of_open hopen rfl _)

theorem exec_patchRead_cell {s : State} (hopen : PortOpen .cell s) (entry : Byte) :
    exec (.patchRead .cell entry) s =
      .next (reply .cell (patchReadDecide entry s).1 (patchReadDecide entry s).2) :=
  congrArg Host.Outcome.next (portRequest_of_open hopen rfl _)

/-! ## Items -/

theorem sectionEnd_le (sect : Nat) : sectionEnd sect ≤ 436 := by
  unfold sectionEnd; split <;> decide

/-- One write replaces one item. -/
theorem item_setIfInBounds (r : Items) (i v k : Nat) :
    item (r.setIfInBounds i v) k = if i = k ∧ k < 436 then v else item r k := by
  by_cases hik : i = k
  · subst hik
    by_cases hi : i < 436 <;> simp [item, hi]
  · simp [item, Vector.getElem?_setIfInBounds_ne hik, hik]

/-- A run leaves the items before it and after it. -/
theorem item_writeItems_outside (r : Items) (i : Nat) (vs : List Nat) (k : Nat)
    (hk : k < i ∨ i + vs.length ≤ k) : item (writeItems r i vs) k = item r k := by
  induction vs generalizing r i with
  | nil => rfl
  | cons v vs ih =>
    simp only [List.length_cons] at hk
    have hne : ¬(i = k ∧ k < 436) := by omega
    rw [writeItems, ih _ _ (by omega), item_setIfInBounds, if_neg hne]

/-- A run that ends within the recipe stores each of its values. -/
theorem item_writeItems_inside (r : Items) (i : Nat) (vs : List Nat) (hfit : i + vs.length ≤ 436) {k v : Nat}
    (hv : vs[k]? = some v) : item (writeItems r i vs) (i + k) = v := by
  induction vs generalizing r i k with
  | nil => simp at hv
  | cons w vs ih =>
    simp only [List.length_cons] at hfit
    cases k with
    | zero =>
      have hwv : w = v := by simpa using hv
      have hin : i = i ∧ i < 436 := ⟨rfl, by omega⟩
      rw [writeItems, Nat.add_zero i, item_writeItems_outside _ _ _ _ (Or.inl (Nat.lt_add_one i)), item_setIfInBounds,
        if_pos hin, hwv]
    | succ k =>
      rw [writeItems, show i + (k + 1) = i + 1 + k by omega]
      exact ih _ _ (by omega) (by simpa using hv)

/-- The runs that RECIPE WRITE and RECIPE READ take (R22, R24). -/
theorem runOffset_eq_some_iff (t : ItemRef) (len o : Nat) :
    runOffset t len = some o ↔
      itemOffset t = some o ∧ 1 ≤ len ∧ len ≤ 27 ∧ o + len ≤ sectionEnd t.sect := by
  unfold runOffset
  cases itemOffset t with
  | none => simp
  | some a =>
    by_cases hfit : 1 ≤ len ∧ len ≤ 27 ∧ a + len ≤ sectionEnd t.sect
    · simp only [if_pos hfit, Option.some.injEq]
      exact ⟨fun e => e ▸ ⟨rfl, hfit⟩, fun h => h.1⟩
    · simp only [if_neg hfit, Option.some.injEq, reduceCtorEq, false_iff]
      rintro ⟨rfl, h⟩
      exact hfit h

/-! ## Slots -/

theorem recipeAt_eq_none (st : RecipeStore) {n : Nat} (h : 12 ≤ n) : recipeAt st n = none := by
  simp [recipeAt, h]

theorem recipeAt_val (st : RecipeStore) (n : Fin 12) : recipeAt st n.val = some st.recipes[n] := by
  simp [recipeAt]

/-- A slot's replacement leaves the other slots. -/
theorem setRecipe_recipes (n m : Fin 12) (r : Recipe) (s : State) :
    (setRecipe n.val r s).store.recipes[m] = if m = n then r else s.store.recipes[m] := by
  simp [setRecipe, Vector.getElem_setIfInBounds, Fin.ext_iff, eq_comm]

/-! ## RECIPE WRITE and RECIPE READ -/

/-- In each case that R22 and R24 refuse, there is no slot or no run. -/
theorem no_slot_or_no_run (st : RecipeStore) {n len : Nat} {t : ItemRef}
    (h : 12 ≤ n ∨ itemOffset t = none ∨ len = 0 ∨ 27 < len ∨
      ∃ o, itemOffset t = some o ∧ sectionEnd t.sect < o + len) :
    recipeAt st n = none ∨ runOffset t len = none := by
  by_cases hn : 12 ≤ n
  · exact Or.inl (recipeAt_eq_none st hn)
  · refine Or.inr (Option.eq_none_iff_forall_ne_some.mpr fun o ho => ?_)
    obtain ⟨hoff, hpos, hmax, hend⟩ := (runOffset_eq_some_iff t len o).mp ho
    rcases h with h | h | h | h | ⟨a, ha, hpast⟩
    · exact hn h
    · simp [hoff] at h
    · omega
    · omega
    · obtain rfl : o = a := by simpa [hoff] using ha
      omega

theorem recipeWriteDecide_refused {recipe sect index field : Byte} {values : List Word16} {s : State}
    (h : recipeAt s.store recipe.toNat = none ∨ runOffset (target sect index field) values.length = none) :
    recipeWriteDecide recipe sect index field values s = (plain .range, s) := by
  unfold recipeWriteDecide
  split
  · rename_i hslot hrun
    simp [hslot, hrun] at h
  · rfl

theorem recipeReadDecide_refused {recipe sect index field count : Byte} {s : State}
    (h : recipeAt s.store recipe.toNat = none ∨ runOffset (target sect index field) count.toNat = none) :
    recipeReadDecide recipe sect index field count s = (plain .range, s) := by
  unfold recipeReadDecide
  split
  · rename_i hslot hrun
    simp [hslot, hrun] at h
  · rfl

theorem recipeWriteDecide_accepted {recipe sect index field : Byte} {values : List Word16} {n : Fin 12} {o : Nat}
    (s : State) (hn : n.val = recipe.toNat) (ho : runOffset (target sect index field) values.length = some o) :
    recipeWriteDecide recipe sect index field values s =
      (plain .ok, setRecipe n.val ⟨writeItems s.store.recipes[n].items o (values.map BitVec.toNat), false⟩ s) := by
  simp only [recipeWriteDecide, ← hn, recipeAt_val, ho]

theorem recipeReadDecide_accepted {recipe sect index field count : Byte} {n : Fin 12} {o : Nat}
    (s : State) (hn : n.val = recipe.toNat) (ho : runOffset (target sect index field) count.toNat = some o) :
    recipeReadDecide recipe sect index field count s =
      (⟨.ok, flagByte s.store.recipes[n].valid ::
        (List.range count.toNat).flatMap fun k => be16 (item s.store.recipes[n].items (o + k))⟩, s) := by
  simp only [recipeReadDecide, ← hn, recipeAt_val, ho]

/-- Settles O43: a refused run finds no slot or no offset, and an accepted one is written item by item. -/
theorem recipesWrittenAndRead : Obligations.RecipesWrittenAndRead := by
  refine ⟨fun recipe sect index field values s hopen => ⟨fun hbad => ?_, fun n o hn hoff hpos hmax hend => ?_⟩,
    fun recipe sect index field count s hopen => ⟨fun hbad => ?_, fun n o hn hoff hpos hmax hend => ?_⟩⟩
  · rw [← List.length_eq_zero_iff] at hbad
    rw [exec_recipeWrite_cell hopen, recipeWriteDecide_refused (no_slot_or_no_run s.store hbad)]
    rfl
  · have hrun : runOffset (target sect index field) values.length = some o :=
      (runOffset_eq_some_iff _ _ _).mpr ⟨hoff, hpos, hmax, hend⟩
    have hfit : o + (values.map BitVec.toNat).length ≤ 436 := by
      rw [List.length_map]; exact hend.trans (sectionEnd_le _)
    refine ⟨_, exec_recipeWrite_cell hopen .., ?_⟩
    rw [recipeWriteDecide_accepted s hn hrun]
    have hslot (m : Fin 12) (r : Recipe) : (reply .cell (plain .ok) (setRecipe n.val r s)).store.recipes[m] =
        if m = n then r else s.store.recipes[m] := setRecipe_recipes n m r s
    refine ⟨rfl, rfl, ?_, fun m hm => ?_, fun k v hv => ?_, fun k hk => ?_⟩
    · rw [hslot, if_pos rfl]
    · rw [hslot, if_neg hm]
    · rw [hslot, if_pos rfl]
      exact item_writeItems_inside _ _ _ hfit (by simp [hv])
    · rw [hslot, if_pos rfl]
      exact item_writeItems_outside _ _ _ _ (by simpa using hk)
  · rw [exec_recipeRead_cell hopen, recipeReadDecide_refused (no_slot_or_no_run s.store hbad)]
    rfl
  · have hrun : runOffset (target sect index field) count.toNat = some o :=
      (runOffset_eq_some_iff _ _ _).mpr ⟨hoff, hpos, hmax, hend⟩
    rw [exec_recipeRead_cell hopen, recipeReadDecide_accepted s hn hrun]
    rfl

/-! ## PATCH WRITE and PATCH READ -/

theorem mem_allEntries : ∀ e : Fin 8, e ∈ allEntries := by decide

/-- The check of R31 for another enabled entry with the same recipe and target. -/
theorem patchClash_iff (st : RecipeStore) (n : Fin 8) (recipe : Nat) (t : ItemRef) :
    patchClash st n.val recipe t = true ↔
      ∃ m : Fin 8, m ≠ n ∧ st.patches[m].enabled = true ∧ st.patches[m].recipe = recipe ∧ st.patches[m].target = t := by
  simp [patchClash, patchApplies, mem_allEntries, Fin.ext_iff, and_assoc]

theorem toNat_eq_one_iff (b : Byte) : b.toNat = 1 ↔ b = 1 := BitVec.toNat_inj (y := 1#8)

/-- A PATCH WRITE of a content that another enabled entry has (R31). -/
theorem duplicate_iff (st : RecipeStore) {entry : Byte} {n : Fin 8} (hn : n.val = entry.toNat) (enabled recipe : Byte)
    (t : ItemRef) :
    (enabled.toNat = 1 ∧ patchClash st entry.toNat recipe.toNat t = true) ↔
      enabled = 1 ∧ ∃ m : Fin 8, m ≠ n ∧ st.patches[m].enabled = true ∧ st.patches[m].recipe = recipe.toNat ∧
        st.patches[m].target = t := by
  rw [toNat_eq_one_iff, ← hn, patchClash_iff]

/-- The check of R31 for the ranges. -/
theorem patchRangeGood_iff (entry enabled recipe : Byte) (t : ItemRef) :
    patchRangeGood entry enabled recipe t = true ↔
      entry.toNat < 8 ∧ enabled.toNat ≤ 1 ∧ recipe.toNat < 12 ∧ itemOffset t ≠ none := by
  simp [patchRangeGood, Option.isSome_iff_ne_none, and_assoc]

/-- The content that an accepted PATCH WRITE gives to its entry (R32). -/
def patchContent (enabled recipe sect index field : Byte) (value : Word16) : Patch :=
  ⟨enabled == 1, recipe.toNat, target sect index field, value.toNat⟩

/-- An accepted PATCH WRITE's effect on the table (R32). -/
def setPatch (n : Nat) (e : Patch) (s : State) : State :=
  s.withStore { s.store with patches := s.store.patches.setIfInBounds n e }

theorem setPatch_patches (n m : Fin 8) (e : Patch) (s : State) :
    (setPatch n.val e s).store.patches[m] = if m = n then e else s.store.patches[m] := by
  simp [setPatch, Vector.getElem_setIfInBounds, Fin.ext_iff, eq_comm]

section
variable {entry enabled recipe sect index field : Byte} {value : Word16} {s : State}

theorem patchWriteDecide_range (h : ¬patchRangeGood entry enabled recipe (target sect index field) = true) :
    patchWriteDecide entry enabled recipe sect index field value s = (plain .range, s) := by
  simp [patchWriteDecide, h]

theorem patchWriteDecide_duplicate (hgood : patchRangeGood entry enabled recipe (target sect index field) = true)
    (hclash : enabled.toNat = 1 ∧ patchClash s.store entry.toNat recipe.toNat (target sect index field) = true) :
    patchWriteDecide entry enabled recipe sect index field value s = (plain .duplicate, s) := by
  simp [patchWriteDecide, hgood, hclash]

theorem patchWriteDecide_accepted (hgood : patchRangeGood entry enabled recipe (target sect index field) = true)
    (hclash : ¬(enabled.toNat = 1 ∧ patchClash s.store entry.toNat recipe.toNat (target sect index field) = true)) :
    patchWriteDecide entry enabled recipe sect index field value s =
      (plain .ok, setPatch entry.toNat (patchContent enabled recipe sect index field value) s) := by
  have hflag : (enabled.toNat == 1) = (enabled == 1) := by
    rw [Bool.eq_iff_iff, beq_iff_eq, beq_iff_eq, toNat_eq_one_iff]
  simp only [patchWriteDecide, hgood, Bool.not_true, Bool.false_eq_true, if_false, if_neg hclash, hflag]
  rfl

theorem patchReadDecide_range (h : 8 ≤ entry.toNat) : patchReadDecide entry s = (plain .range, s) := by
  simp [patchReadDecide, h]

theorem patchReadDecide_entry {n : Fin 8} (hn : n.val = entry.toNat) :
    patchReadDecide entry s =
      (⟨.ok, [flagByte s.store.patches[n].enabled, byte s.store.patches[n].recipe] ++
        itemBytes s.store.patches[n].target ++ be16 s.store.patches[n].value⟩, s) := by
  simp [patchReadDecide, ← hn]

end

/-- Settles O45: the ranges are judged before the clash, and an accepted content replaces one entry. -/
theorem patchesWrittenAndRead : Obligations.PatchesWrittenAndRead := by
  refine ⟨fun entry enabled recipe sect index field value s hopen =>
      ⟨fun hbad => ?_, fun n hn henabled hrecipe hoff => ?_⟩,
    fun entry s hopen => ⟨fun hbad => ?_, fun n hn => ?_⟩⟩
  · have hrange : ¬patchRangeGood entry enabled recipe (target sect index field) = true := by
      rw [patchRangeGood_iff]
      rintro ⟨hentry, henabled, hrecipe, hoff⟩
      rcases hbad with h | h | h | h
      · omega
      · omega
      · omega
      · exact hoff h
    rw [exec_patchWrite_cell hopen, patchWriteDecide_range hrange]
    rfl
  · have hgood : patchRangeGood entry enabled recipe (target sect index field) = true :=
      (patchRangeGood_iff ..).mpr ⟨hn ▸ n.isLt, henabled, hrecipe, hoff⟩
    have hclash := duplicate_iff s.store hn enabled recipe (target sect index field)
    refine ⟨fun h => ?_, fun h => ⟨_, exec_patchWrite_cell hopen .., ?_⟩⟩
    · rw [exec_patchWrite_cell hopen, patchWriteDecide_duplicate hgood (hclash.mpr h)]
      rfl
    · rw [patchWriteDecide_accepted hgood (mt hclash.mp h), ← hn]
      have hentry (m : Fin 8) := setPatch_patches n m (patchContent enabled recipe sect index field value) s
      exact ⟨rfl, rfl, fun m hm => (hentry m).trans (if_neg hm), (hentry n).trans (if_pos rfl)⟩
  · rw [exec_patchRead_cell hopen, patchReadDecide_range hbad]
    rfl
  · rw [exec_patchRead_cell hopen, patchReadDecide_entry hn]
    rfl

end Sys2Proof.Machine
end

section
/-! SUPPORT. The amplitude of a slot (spec/06, R101): the root built from binary digits is the exact integer square root. -/

namespace Sys2Proof.Machine

/-! ## The integer square root -/

/-- The search keeps `n` between the square of the root built so far and the square of its bound `r + 2 ^ bits`; each digit halves
the distance of the two, so that at the end they are neighbours. -/
theorem rootDigits_bounds {n : Nat} (bits r : Nat) (hlow : r * r ≤ n) (hhigh : n < (r + 2 ^ bits) * (r + 2 ^ bits)) :
    rootDigits n bits r * rootDigits n bits r ≤ n ∧ n < (rootDigits n bits r + 1) * (rootDigits n bits r + 1) := by
  induction bits generalizing r with
  | zero => exact ⟨hlow, hhigh⟩
  | succ bit ih =>
    rw [rootDigits]
    split
    case isTrue hdigit =>
      have hbound : r + 2 ^ bit + 2 ^ bit = r + 2 ^ (bit + 1) := by rw [pow_succ]; omega
      exact ih (r + 2 ^ bit) hdigit (hbound ▸ hhigh)
    case isFalse hdigit => exact ih r hlow (not_le.mp hdigit)

/-- The first bound of the search is above the root: half the binary length of `n`, rounded up, is enough digits. -/
theorem lt_square_two_pow_digits (n : Nat) : n < 2 ^ (n.log2 / 2 + 1) * 2 ^ (n.log2 / 2 + 1) := by
  calc n < 2 ^ (n.log2 + 1) := Nat.lt_log2_self
    _ ≤ 2 ^ (n.log2 / 2 + 1 + (n.log2 / 2 + 1)) := Nat.pow_le_pow_right (by decide) (by omega)
    _ = 2 ^ (n.log2 / 2 + 1) * 2 ^ (n.log2 / 2 + 1) := pow_add ..

/-- R101, step 1: the root is the greatest number whose square does not exceed `n`. -/
theorem integerRoot_bounds (n : Nat) :
    integerRoot n * integerRoot n ≤ n ∧ n < (integerRoot n + 1) * (integerRoot n + 1) :=
  rootDigits_bounds _ 0 (Nat.zero_le n) (by simpa using lt_square_two_pow_digits n)

/-! ## The sum of squares -/

/-- The sum of squares that `amplitude` takes of the accumulators' magnitudes is that of the accumulators themselves. -/
theorem natAbs_sum_squares (i q : Int) : ((i.natAbs * i.natAbs + q.natAbs * q.natAbs : Nat) : Int) = i * i + q * q := by
  rw [Nat.cast_add, Int.natAbs_mul_self, Int.natAbs_mul_self]

/-- Settles O26: the witness is the root that the model itself computes, by the invariant of its digit search. -/
theorem amplitudeIsExact : Obligations.AmplitudeIsExact := by
  intro i q n
  obtain ⟨hlow, hhigh⟩ := integerRoot_bounds (i.natAbs * i.natAbs + q.natAbs * q.natAbs)
  refine ⟨integerRoot (i.natAbs * i.natAbs + q.natAbs * q.natAbs), ?_, ?_, rfl⟩
  · rw [← natAbs_sum_squares]
    exact_mod_cast hlow
  · rw [← natAbs_sum_squares]
    exact_mod_cast hhigh

end Sys2Proof.Machine
end

section
/-! SUPPORT. The Event Unit's marks and routes (spec/11, R165 to R169): what a raising, EVENT and ROUTE WRITE do to each mark. -/

namespace Sys2Proof.Machine

/-! ## One mark -/

theorem EventUnit.marks_setMarks (u : EventUnit) (p q : Port) (m : Vector (Option Event) 11) :
    (u.setMarks p m).marks q = if q = p then m else u.marks q := by
  cases p <;> cases q <;> rfl

theorem marks_set_get (m : Vector (Option Event) 11) (i j : Fin 11) (x : Option Event) :
    (m.set i x)[j] = if j = i then x else m[j] := by
  simp [Vector.getElem_set, Fin.ext_iff, eq_comm]

/-- Clearing one mark leaves the marks of the other sources and of the other port. -/
theorem EventUnit.marks_clearMark (u : EventUnit) (p q : Port) (i j : Fin 11) :
    ((u.clearMark p i).marks q)[j] = if j = i ∧ q = p then none else (u.marks q)[j] := by
  unfold EventUnit.clearMark
  rw [EventUnit.marks_setMarks]
  by_cases hq : q = p
  · subst hq
    rw [if_pos rfl, marks_set_get]
    simp
  · simp [hq]

@[simp] theorem EventUnit.clearMark_routes (u : EventUnit) (p : Port) (i : Fin 11) :
    (u.clearMark p i).routes = u.routes := by
  cases p <;> rfl

/-! ## Raising -/

/-- A raising sets the mark of its source on the ports of its route, and no other (R167). -/
theorem mark_raise (e : Event) (s : State) (i : Fin 11) (p : Port) :
    mark (raise e s) i p =
      if i = e.source ∧ (routeOf s e.source).has p = true then some e else mark s i p := by
  have hport : (raise e s).events.marks p =
      if (routeOf s e.source).has p = true then (s.events.marks p).set e.source (some e) else s.events.marks p := by
    cases p <;> rfl
  unfold mark
  rw [hport]
  by_cases hroute : (routeOf s e.source).has p = true
  · rw [if_pos hroute, marks_set_get]
    simp [hroute]
  · simp [hroute]

/-- Settles O48: `mark_raise` for the marks; a raising writes no route and nothing outside the Event Unit. -/
theorem raisingSetsMarks : Obligations.RaisingSetsMarks :=
  fun e s i p => ⟨mark_raise e s i p, rfl, rfl⟩

/-! ## EVENT -/

theorem exec_event {p : Port} {s : State} (hopen : PortOpen p s) :
    exec (.event p) s = .next (reply p (eventDecide p s).1 (eventDecide p s).2) := by
  have hright : allowed s.ports.rights p .event = true := by cases p <;> rfl
  exact congrArg Host.Outcome.next (portRequest_of_open hopen hright _)

/-- With no mark set for the port, EVENT's search finds none. -/
theorem firstMark_eq_none {s : State} {p : Port} (h : ∀ i, mark s i p = none) : firstMark s.events p = none := by
  rw [firstMark, List.find?_eq_none]
  intro i _ hset
  have hmark : (s.events.marks p)[i] = none := h i
  simp [hmark] at hset

/-- The sources stand in the order of their priority. -/
theorem allSources_pairwise : allSources.Pairwise (· < ·) := by decide

/-- EVENT's search finds the set mark before which none is set. -/
theorem firstMark_eq_some {s : State} {p : Port} {i : Fin 11} {e : Event} (hi : mark s i p = some e)
    (hfirst : ∀ j, j < i → mark s j p = none) : firstMark s.events p = some i := by
  have hset : ((s.events.marks p)[i]).isSome = true := Option.isSome_of_eq_some hi
  obtain ⟨before, after, hsplit⟩ := List.append_of_mem (mem_allSources i)
  refine List.find?_eq_some_iff_append.mpr ⟨hset, before, after, hsplit, fun j hj => ?_⟩
  have hlt : j < i := by
    have hsorted := allSources_pairwise
    rw [hsplit] at hsorted
    obtain ⟨-, -, hbefore⟩ := List.pairwise_append.mp hsorted
    exact hbefore j hj i List.mem_cons_self
  have hmark : (s.events.marks p)[j] = none := hfirst j hlt
  simp [hmark]

theorem eventDecide_none {s : State} {p : Port} (h : ∀ i, mark s i p = none) : eventDecide p s = (plain .none, s) := by
  simp [eventDecide, firstMark_eq_none h]

theorem eventDecide_some {s : State} {p : Port} {i : Fin 11} {e : Event} (hi : mark s i p = some e)
    (hfirst : ∀ j, j < i → mark s j p = none) :
    eventDecide p s = (⟨.ok, eventBytes e⟩, s.withEvents (s.events.clearMark p i)) := by
  have hmark : (s.events.marks p)[i] = some e := hi
  simp only [eventDecide, firstMark_eq_some hi hfirst, hmark]

/-- Settles O47: the search finds the mark of the highest priority, and only that mark is cleared. -/
theorem eventTakesFirst : Obligations.EventTakesFirst := by
  refine fun p s hopen => ⟨fun hnone => ?_, fun i e hi hfirst => ⟨_, exec_event hopen, ?_⟩⟩
  · rw [exec_event hopen, eventDecide_none hnone]
    rfl
  · rw [eventDecide_some hi hfirst]
    refine ⟨rfl, ?_, ?_, fun j q => ?_⟩
    · simp [reply_ports]
    · simp
    · exact EventUnit.marks_clearMark s.events p q i j

/-! ## ROUTE WRITE -/

theorem exec_routeWrite_cell {s : State} (hopen : PortOpen .cell s) (source route : Byte) :
    exec (.routeWrite .cell source route) s =
      .next (reply .cell (routeWriteDecide source route s).1 (routeWriteDecide source route s).2) :=
  congrArg Host.Outcome.next (portRequest_of_open hopen rfl _)

theorem sourceOf_eq_some_iff (b : Byte) (i : Fin 11) : sourceOf b = some i ↔ i.val + 1 = b.toNat := by
  unfold sourceOf
  constructor
  · intro h
    simpa using List.find?_some h
  · intro h
    cases hfind : allSources.find? fun j => j.val + 1 == b.toNat with
    | none =>
      have := List.find?_eq_none.mp hfind i (mem_allSources i)
      simp [h] at this
    | some j =>
      have hj : j.val + 1 = b.toNat := by simpa using List.find?_some hfind
      rw [Option.some.injEq, Fin.ext_iff]
      omega

theorem sourceOf_eq_none {b : Byte} (h : b.toNat = 0 ∨ 11 < b.toNat) : sourceOf b = none := by
  refine Option.eq_none_iff_forall_ne_some.mpr fun i hi => ?_
  have hval := (sourceOf_eq_some_iff b i).mp hi
  have hlt := i.isLt
  omega

theorem routeOfCode_eq_none : ∀ {n : Nat}, 3 < n → routeOfCode n = none
  | _ + 4, _ => rfl

theorem routeOfCode_code (r : Route) : routeOfCode r.code = some r := by cases r <;> rfl

theorem routeWriteDecide_refused {source route : Byte} (s : State)
    (h : source.toNat = 0 ∨ 11 < source.toNat ∨ 3 < route.toNat) :
    routeWriteDecide source route s = (plain .range, s) := by
  have hnone : sourceOf source = none ∨ routeOfCode route.toNat = none := by
    rcases h with h | h | h
    · exact Or.inl (sourceOf_eq_none (Or.inl h))
    · exact Or.inl (sourceOf_eq_none (Or.inr h))
    · exact Or.inr (routeOfCode_eq_none h)
  unfold routeWriteDecide
  split
  · rename_i hsource hroute
    simp [hsource, hroute] at hnone
  · rfl

theorem routeWriteDecide_accepted {source route : Byte} {i : Fin 11} {r : Route} (s : State)
    (hi : i.val + 1 = source.toNat) (hr : r.code = route.toNat) :
    routeWriteDecide source route s = (plain .ok, s.withEvents (setRoute i r s.events)) := by
  simp only [routeWriteDecide, (sourceOf_eq_some_iff source i).mpr hi, ← hr, routeOfCode_code]

@[simp] theorem dropMark_routes (i : Fin 11) (r : Route) (u : EventUnit) (p : Port) :
    (dropMark i r u p).routes = u.routes := by
  unfold dropMark; split <;> simp

theorem marks_dropMark (i j : Fin 11) (r : Route) (u : EventUnit) (p q : Port) :
    ((dropMark i r u p).marks q)[j] = if j = i ∧ q = p ∧ r.has p = false then none else (u.marks q)[j] := by
  unfold dropMark
  split
  case isTrue hhas => simp [hhas]
  case isFalse hhas =>
    rw [EventUnit.marks_clearMark]
    simp [hhas]

/-- A new route of a source replaces that source's alone (R165). -/
theorem setRoute_routes (i j : Fin 11) (r : Route) (u : EventUnit) :
    (setRoute i r u).routes[j] = if j = i then r else u.routes[j] := by
  simp [setRoute, Vector.getElem_set, Fin.ext_iff, eq_comm]

/-- A new route of a source clears that source's mark on each port that it leaves out (R165). -/
theorem marks_setRoute (i j : Fin 11) (r : Route) (u : EventUnit) (p : Port) :
    ((setRoute i r u).marks p)[j] = if j = i ∧ r.has p = false then none else (u.marks p)[j] := by
  have hroutes (x : Vector Route 11) (q : Port) : ({ u with routes := x } : EventUnit).marks q = u.marks q := by
    cases q <;> rfl
  unfold setRoute
  rw [marks_dropMark, marks_dropMark, hroutes]
  cases p <;> simp

/-! ## Attention -/

/-- The attention output of a port is on exactly while a mark of the port is set (R169). -/
theorem attention_iff (s : State) (p : Port) : attention s p = true ↔ ∃ i, (mark s i p).isSome = true := by
  simp [attention, mem_allSources, mark]

/-- Settles O50: a source or a route out of range is not found, and an accepted route is `setRoute`'s. -/
theorem routeReplaced : Obligations.RouteReplaced := by
  refine fun source route s hopen => ⟨fun hbad => ?_, fun i r hi hr => ⟨_, exec_routeWrite_cell hopen .., ?_⟩⟩
  · rw [exec_routeWrite_cell hopen, routeWriteDecide_refused s hbad]
    rfl
  · rw [routeWriteDecide_accepted s hi hr]
    exact ⟨rfl, fun j => setRoute_routes i j r s.events, fun j p => marks_setRoute i j r s.events p,
      fun p => attention_iff _ p⟩

end Sys2Proof.Machine
end

section
/-! SUPPORT. Every mark stands on a port of its source's route (spec/11, R169), said of the Event Unit alone, and what each operation of
the model does to it. A raising sets a mark only on a routed port and clears none, so it keeps the property in both directions; every
operation that changes the Event Unit by raisings alone does the same, and is one rewriting rule. -/

namespace Sys2Proof.Machine

/-- `MarksRouted` as a property of the Event Unit (R169). -/
def EventUnit.Routed (u : EventUnit) : Prop :=
  ∀ (i : Fin 11) (p : Port), ((u.marks p)[i]).isSome = true → (u.routes[i]).has p = true

theorem marksRouted_iff (s : State) : MarksRouted s ↔ s.events.Routed := Iff.rfl

/-! ## The Event Unit's own operations -/

@[simp] theorem raise_routed (e : Event) (s : State) : (raise e s).events.Routed ↔ s.events.Routed := by
  refine forall_congr' fun i => forall_congr' fun p => ?_
  change ((mark (raise e s) i p).isSome = true → (routeOf s i).has p = true) ↔
    ((mark s i p).isSome = true → (routeOf s i).has p = true)
  rw [mark_raise]
  split
  case isTrue hset =>
    obtain ⟨rfl, hroute⟩ := hset
    simp [hroute]
  case isFalse => rfl

theorem clearMark_routed {u : EventUnit} (p : Port) (i : Fin 11) (h : u.Routed) : (u.clearMark p i).Routed := by
  intro j q hset
  rw [EventUnit.marks_clearMark] at hset
  rw [EventUnit.clearMark_routes]
  split at hset
  · simp at hset
  · exact h j q hset

/-- A new route clears the marks that it leaves without a port (R165). -/
theorem setRoute_routed {u : EventUnit} (i : Fin 11) (r : Route) (h : u.Routed) : (setRoute i r u).Routed := by
  intro j p hset
  rw [marks_setRoute] at hset
  rw [setRoute_routes]
  by_cases hj : j = i
  · rw [if_pos hj]
    cases hhas : r.has p with
    | true => rfl
    | false => simp [hj, hhas] at hset
  · rw [if_neg hj]
    refine h j p ?_
    simpa [hj] using hset

theorem resetWith_routed (g : GuardLevels) : (State.resetWith g).events.Routed := by
  intro i p hset
  cases p <;> simp [State.resetWith, resetEvents, EventUnit.marks] at hset

/-! ## Ending a test, mode changes and latching (TestOps) -/

@[simp] theorem abandonCheck_routed (s : State) : (abandonCheck s).events.Routed ↔ s.events.Routed := by
  unfold abandonCheck; split <;> simp

@[simp] theorem abandonCheckOf_routed (p : CheckKind → Bool) (s : State) :
    (abandonCheckOf p s).events.Routed ↔ s.events.Routed := by
  unfold abandonCheckOf; (repeat' split) <;> simp

@[simp] theorem endTest_routed (s : State) : (endTest s).events.Routed ↔ s.events.Routed := by
  unfold endTest; (repeat' split) <;> simp

@[simp] theorem setMode_routed (m : Mode) (s : State) : (setMode m s).events.Routed ↔ s.events.Routed := by
  unfold setMode; dsimp only; (repeat' split) <;> simp

@[simp] theorem dropTarget_routed (s : State) : (dropTarget s).events.Routed ↔ s.events.Routed := by
  unfold dropTarget; split <;> simp

@[simp] theorem enterStopped_routed (m : Mode) (s : State) : (enterStopped m s).events.Routed ↔ s.events.Routed := by
  unfold enterStopped; simp

@[simp] theorem stopCause_routed (s : State) : (stopCause s).events.Routed ↔ s.events.Routed := by
  unfold stopCause; split <;> simp

@[simp] theorem enterHalt_routed (s : State) : (enterHalt s).events.Routed ↔ s.events.Routed := by
  unfold enterHalt; simp

@[simp] theorem latch_routed (k : LatchKind) (v : Nat) (s : State) : (latch k v s).events.Routed ↔ s.events.Routed := by
  unfold latch; dsimp only; (repeat' split) <;> simp

@[simp] theorem completionCheck_routed (s : State) : (completionCheck s).events.Routed ↔ s.events.Routed := by
  unfold completionCheck; (repeat' split) <;> simp

@[simp] theorem enterSettle_routed (t : Target) (s : State) : (enterSettle t s).events.Routed ↔ s.events.Routed := by
  unfold enterSettle; simp

@[simp] theorem enterPause_routed (k : PauseKind) (s : State) : (enterPause k s).events.Routed ↔ s.events.Routed := by
  unfold enterPause; dsimp only; split <;> simp

@[simp] theorem supplyJudge_routed (s : State) : (supplyJudge s).events.Routed ↔ s.events.Routed := by
  unfold supplyJudge; dsimp only; (repeat' split) <;> simp

@[simp] theorem driveFaultJudge_routed (s : State) : (driveFaultJudge s).events.Routed ↔ s.events.Routed := by
  unfold driveFaultJudge; (repeat' split) <;> simp

/-- Two effects in either order keep the property in both directions where each of them does. -/
theorem eitherOrder_routed (matters : Bool) {f g : State → State} (s : State)
    (hf : ∀ x, (f x).events.Routed ↔ x.events.Routed) (hg : ∀ x, (g x).events.Routed ↔ x.events.Routed) :
    (eitherOrder matters f g s).events.Routed ↔ s.events.Routed := by
  unfold eitherOrder; dsimp only; (repeat' split) <;> simp [hf, hg]

@[simp] theorem driveEnableRose_routed (s : State) : (driveEnableRose s).events.Routed ↔ s.events.Routed := by
  unfold driveEnableRose; simp [eitherOrder_routed]

/-! ## The test's way through its steps (SequenceOps) -/

@[simp] theorem normalDecision_routed (s : State) : (normalDecision s).events.Routed ↔ s.events.Routed := by
  unfold normalDecision; simp

@[simp] theorem decisionDue_routed (c : TestContext) (s : State) :
    (decisionDue c s).events.Routed ↔ s.events.Routed := by
  unfold decisionDue; split <;> simp

@[simp] theorem zeroAsk_routed (c : TestContext) (s : State) : (zeroAsk c s).events.Routed ↔ s.events.Routed := by
  unfold zeroAsk; split <;> simp

@[simp] theorem enterZeroWait_routed (c : TestContext) (s : State) :
    (enterZeroWait c s).events.Routed ↔ s.events.Routed := by
  unfold enterZeroWait; split <;> simp

@[simp] theorem leakDoneReport_routed (s : State) : (leakDoneReport s).events.Routed ↔ s.events.Routed := by
  unfold leakDoneReport; (repeat' split) <;> simp

@[simp] theorem zeroAnswer_routed (s : State) : (zeroAnswer s).events.Routed ↔ s.events.Routed := by
  unfold zeroAnswer; (repeat' split) <;> simp

@[simp] theorem enterVentWait_routed (c : TestContext) (s : State) :
    (enterVentWait c s).events.Routed ↔ s.events.Routed := by
  unfold enterVentWait; split <;> simp

@[simp] theorem finishCheck_routed (s : State) : (finishCheck s).events.Routed ↔ s.events.Routed := by
  unfold finishCheck; dsimp only; (repeat' split) <;> simp

@[simp] theorem finishWait_routed (c : TestContext) (s : State) :
    (finishWait c s).events.Routed ↔ s.events.Routed := by
  unfold finishWait; simp

@[simp] theorem makeHeldRequest_routed (c : TestContext) (s : State) :
    (makeHeldRequest c s).events.Routed ↔ s.events.Routed := by
  unfold makeHeldRequest; (repeat' split) <;> simp

@[simp] theorem resumeRunIn_routed (s : State) : (resumeRunIn s).events.Routed ↔ s.events.Routed := by
  unfold resumeRunIn; (repeat' split) <;> simp

@[simp] theorem resume_routed (s : State) : (resume s).events.Routed ↔ s.events.Routed := by
  unfold resume; simp

@[simp] theorem reportRampEnd_routed (s : State) : (reportRampEnd s).events.Routed ↔ s.events.Routed := by
  unfold reportRampEnd; (repeat' split) <;> simp

@[simp] theorem runInAccept_routed (d : DriveId) (s : State) :
    (runInAccept d s).events.Routed ↔ s.events.Routed := by
  unfold runInAccept; simp

@[simp] theorem modeAccept_routed (d : DriveId) (s : State) :
    (modeAccept d s).events.Routed ↔ s.events.Routed := by
  unfold modeAccept; dsimp only; split <;> simp

@[simp] theorem driveFaultAccept_routed (d : DriveId) (s : State) :
    (driveFaultAccept d s).events.Routed ↔ s.events.Routed := by
  unfold driveFaultAccept; split <;> simp

@[simp] theorem supplyAccept_routed (s : State) : (supplyAccept s).events.Routed ↔ s.events.Routed := by
  unfold supplyAccept; split <;> simp

@[simp] theorem monitorsAccept_routed (d : DriveId) (s : State) :
    (monitorsAccept d s).events.Routed ↔ s.events.Routed := by
  unfold monitorsAccept; simp [eitherOrder_routed]

/-! ## Checks, oil readings and conversions (ZeroOps) -/

@[simp] theorem answerOf_routed (k : CheckKind) (s : State) : (answerOf k s).events.Routed ↔ s.events.Routed := by
  unfold answerOf; split <;> simp

@[simp] theorem goodCheck_routed (k : CheckKind) (v : Nat) (s : State) :
    (goodCheck k v s).events.Routed ↔ s.events.Routed := by
  unfold goodCheck; simp

@[simp] theorem applyPolicy_routed (k : CheckKind) (s : State) :
    (applyPolicy k s).events.Routed ↔ s.events.Routed := by
  unfold applyPolicy; split <;> simp

@[simp] theorem failedCheck_routed (k : CheckKind) (v : Nat) (s : State) :
    (failedCheck k v s).events.Routed ↔ s.events.Routed := by
  unfold failedCheck; dsimp only; split <;> simp

@[simp] theorem judgeCheck_routed (k : CheckKind) (s : State) :
    (judgeCheck k s).events.Routed ↔ s.events.Routed := by
  unfold judgeCheck; dsimp only; (repeat' split) <;> simp

@[simp] theorem zeroReading_routed (v : Nat) (s : State) : (zeroReading v s).events.Routed ↔ s.events.Routed := by
  unfold zeroReading; dsimp only; (repeat' split) <;> simp

@[simp] theorem oilThresholds_routed (c : TestContext) (v : Nat) (s : State) :
    (oilThresholds c v s).events.Routed ↔ s.events.Routed := by
  unfold oilThresholds; dsimp only; (repeat' split) <;> simp

@[simp] theorem oilJudge_routed (v : Nat) (s : State) : (oilJudge v s).events.Routed ↔ s.events.Routed := by
  unfold oilJudge; (repeat' split) <;> simp

@[simp] theorem oilReading_routed (expected : Bool) (v : Nat) (s : State) :
    (oilReading expected v s).events.Routed ↔ s.events.Routed := by
  unfold oilReading; dsimp only; (repeat' split) <;> simp

@[simp] theorem ventReading_routed (v : Nat) (s : State) : (ventReading v s).events.Routed ↔ s.events.Routed := by
  unfold ventReading; split <;> simp

@[simp] theorem deliver_routed (c : Conversion) (v : Nat) (s : State) :
    (deliver c v s).events.Routed ↔ s.events.Routed := by
  unfold deliver; (repeat' split) <;> simp

@[simp] theorem passPressure_routed (c : Conversion) (v : Nat) (s : State) :
    (passPressure c v s).events.Routed ↔ s.events.Routed := by
  unfold passPressure; split <;> simp

@[simp] theorem completeConversion_routed (c : Conversion) (v : Nat) (s : State) :
    (completeConversion c v s).events.Routed ↔ s.events.Routed := by
  unfold completeConversion; simp

end Sys2Proof.Machine
end

section
/-! SUPPORT. Every command and every step keeps each mark on a port of its source's route (spec/11, R169): the requests of the ports, the
events of the timers, links and converter, and the step. -/

namespace Sys2Proof.Machine

/-! ## Requests that raise -/

@[simp] theorem readyDecide_routed (s : State) : (readyDecide s).2.events.Routed ↔ s.events.Routed := by
  unfold readyDecide; (repeat' split) <;> simp

@[simp] theorem abortTest_routed (cause : Nat) (s : State) :
    (abortTest cause s).events.Routed ↔ s.events.Routed := by
  unfold abortTest; simp

@[simp] theorem degrade_routed (s : State) : (degrade s).events.Routed ↔ s.events.Routed := by
  unfold degrade; simp

@[simp] theorem idleDecide_routed (s : State) : (idleDecide s).2.events.Routed ↔ s.events.Routed := by
  unfold idleDecide; (repeat' split) <;> simp

@[simp] theorem pauseDecide_routed (s : State) : (pauseDecide s).2.events.Routed ↔ s.events.Routed := by
  unfold pauseDecide; split <;> simp

@[simp] theorem resumeDecide_routed (s : State) : (resumeDecide s).2.events.Routed ↔ s.events.Routed := by
  unfold resumeDecide; (repeat' split) <;> simp

@[simp] theorem inductDecide_routed (serial : List Byte) (recipe : Byte) (s : State) :
    (inductDecide serial recipe s).2.events.Routed ↔ s.events.Routed := by
  unfold inductDecide inductRecord; dsimp only; (repeat' split) <;> simp

@[simp] theorem startTest_routed (i : Fin 16) (copy : Items) (s : State) :
    (startTest i copy s).events.Routed ↔ s.events.Routed := by
  unfold startTest; simp

@[simp] theorem startRecipe_routed (i : Fin 16) (r : Record) (s : State) :
    (startRecipe i r s).2.events.Routed ↔ s.events.Routed := by
  unfold startRecipe; dsimp only; (repeat' split) <;> simp

@[simp] theorem startDecide_routed (s : State) : (startDecide s).2.events.Routed ↔ s.events.Routed := by
  unfold startDecide; (repeat' split) <;> simp

@[simp] theorem abortDecide_routed (p : Port) (s : State) :
    (abortDecide p s).2.events.Routed ↔ s.events.Routed := by
  unfold abortDecide; split <;> simp

@[simp] theorem clearLatches_events (s : State) : (clearLatches s).events = s.events := by
  unfold clearLatches; simp

@[simp] theorem clearFaultsDecide_routed (s : State) :
    (clearFaultsDecide s).2.events.Routed ↔ s.events.Routed := by
  unfold clearFaultsDecide; simp

@[simp] theorem faultReadAndClearDecide_routed (s : State) :
    (faultReadAndClearDecide s).2.events.Routed ↔ s.events.Routed := by
  unfold faultReadAndClearDecide; simp

@[simp] theorem cellClearDecide_routed (s : State) : (cellClearDecide s).2.events.Routed ↔ s.events.Routed := by
  unfold cellClearDecide; dsimp only; split <;> simp

@[simp] theorem recipeValidateDecide_routed (recipe : Byte) (s : State) :
    (recipeValidateDecide recipe s).2.events.Routed ↔ s.events.Routed := by
  unfold recipeValidateDecide setRecipe; (repeat' split) <;> simp

/-! ## Requests that leave the Event Unit -/

@[simp] theorem verdictDecide_events (s : State) : (verdictDecide s).2.events = s.events := by
  unfold verdictDecide; (repeat' split) <;> simp

@[simp] theorem archiveDecide_events (slot : Byte) (s : State) : (archiveDecide slot s).2.events = s.events := by
  unfold archiveDecide; (repeat' split) <;> simp

@[simp] theorem recordReadDecide_snd (slot sect chunk : Byte) (s : State) :
    (recordReadDecide slot sect chunk s).2 = s := by
  unfold recordReadDecide; (repeat' split) <;> rfl

@[simp] theorem statusDecide_snd (s : State) : (statusDecide s).2 = s := rfl

@[simp] theorem faultReadDecide_snd (s : State) : (faultReadDecide s).2 = s := rfl

@[simp] theorem recipeWriteDecide_events (recipe sect index field : Byte) (values : List Word16) (s : State) :
    (recipeWriteDecide recipe sect index field values s).2.events = s.events := by
  unfold recipeWriteDecide; split <;> rfl

@[simp] theorem recipeReadDecide_snd (recipe sect index field count : Byte) (s : State) :
    (recipeReadDecide recipe sect index field count s).2 = s := by
  unfold recipeReadDecide; split <;> rfl

@[simp] theorem patchWriteDecide_events (entry enabled recipe sect index field : Byte) (value : Word16) (s : State) :
    (patchWriteDecide entry enabled recipe sect index field value s).2.events = s.events := by
  unfold patchWriteDecide; dsimp only; (repeat' split) <;> rfl

@[simp] theorem patchReadDecide_snd (entry : Byte) (s : State) : (patchReadDecide entry s).2 = s := by
  unfold patchReadDecide; split <;> rfl

@[simp] theorem zeroCaptureDecide_events (s : State) : (zeroCaptureDecide s).2.events = s.events := by
  unfold zeroCaptureDecide; (repeat' split) <;> simp

@[simp] theorem zeroCheckDecide_events (s : State) : (zeroCheckDecide s).2.events = s.events := by
  unfold zeroCheckDecide; (repeat' split) <;> simp

@[simp] theorem integrityLogReadDecide_snd (first : Byte) (s : State) : (integrityLogReadDecide first s).2 = s := by
  unfold integrityLogReadDecide; split <;> rfl

@[simp] theorem spotConvertDecide_events (channel : Byte) (s : State) :
    (spotConvertDecide channel s).2.events = s.events := by
  unfold spotConvertDecide; (repeat' split) <;> simp

@[simp] theorem settingsWriteDecide_events (x : SettingsRecord) (s : State) :
    (settingsWriteDecide x s).2.events = s.events := by
  unfold settingsWriteDecide; (repeat' split) <;> rfl

@[simp] theorem settingsReadDecide_snd (s : State) : (settingsReadDecide s).2 = s := rfl

/-! ## EVENT and ROUTE WRITE, which clear marks -/

theorem eventDecide_routed (p : Port) {s : State} (h : s.events.Routed) : (eventDecide p s).2.events.Routed := by
  unfold eventDecide
  split
  case h_1 => exact h
  case h_2 i _ =>
    split
    case h_1 => exact h
    case h_2 => exact clearMark_routed p i h

theorem routeWriteDecide_routed (source route : Byte) {s : State} (h : s.events.Routed) :
    (routeWriteDecide source route s).2.events.Routed := by
  unfold routeWriteDecide
  split
  case h_1 i r _ _ => exact setRoute_routed i r h
  case h_2 => exact h

/-! ## Requests and frames of a port -/

@[simp] theorem refuseAccess_routed (p : Port) (c : Command) (s : State) :
    (refuseAccess p c s).events.Routed ↔ s.events.Routed := by
  unfold refuseAccess; simp

/-- A request keeps the property where the owning block's effect does (R161). -/
theorem portRequest_routed {p : Port} {c : Command} {right : Bool} {act : State → Reply × State} {s : State}
    (hact : (act s).2.events.Routed) (h : s.events.Routed) : (portRequest p c right act s).events.Routed := by
  unfold portRequest; (repeat' split) <;> simp [h, hact]

theorem requestEffect_routed (i : Instr) {s : State} (h : s.events.Routed) : (requestEffect i s).events.Routed := by
  cases i with
  | event p => exact portRequest_routed (eventDecide_routed p h) h
  | routeWrite p source route => exact portRequest_routed (routeWriteDecide_routed source route h) h
  | readyRequest | idleRequest | pauseRequest | resumeRequest | induct | start | abort | verdict | archive | recordRead
  | status | faultRead | clearFaults | faultReadAndClear | cellClear | recipeWrite | recipeRead | recipeValidate
  | patchWrite | patchRead | zeroCapture | zeroCheck | integrityLogRead | spotConvert | settingsWrite | settingsRead =>
    exact portRequest_routed (by simpa using h) h
  | deviceReset | guardInputChange | supplyPauseTimerExpiry | settleTimerExpiry | cycleStart | demandRampEnd | cycleEnd
  | statusMessage | dwellTimerExpiry | standstillTimerExpiry | stepTimerExpiry | runTimeTick | filterTimerExpiry
  | oilRequestTimerExpiry | staleTimerExpiry | encoderPulse | stallTimerExpiry | sampleArrival | fillTimerExpiry
  | leakSettleTimerExpiry | measureTimerExpiry | leakRequestTimerExpiry | checkTimerExpiry | conversionCompletion
  | frameStart | frameEnd | unknownCommand => exact h

theorem dispatch_routed (p : Port) (code : Byte) (payload : List Byte) {s : State} (h : s.events.Routed) :
    (dispatch p code payload s).events.Routed := by
  unfold dispatch; (repeat' split) <;> simp [h, requestEffect_routed]

theorem frameEnd_routed (p : Port) (bits : List Bool) {s : State} (h : s.events.Routed) :
    (frameEnd p bits s).events.Routed := by
  unfold frameEnd; (repeat' split) <;> simp [h, dispatch_routed]

theorem unknownCommand_routed (p : Port) (code : Byte) {s : State} (h : s.events.Routed) :
    (unknownCommand p code s).events.Routed := by
  unfold unknownCommand; split <;> simp [h, dispatch_routed]

/-! ## Events of the timers, the links and the converter -/

@[simp] theorem followEnable_routed (was : Bool) (s : State) :
    (followEnable was s).events.Routed ↔ s.events.Routed := by
  unfold followEnable; (repeat' split) <;> simp

@[simp] theorem guardLatch_routed (loss : Option (LatchKind × Nat)) (s : State) :
    (guardLatch loss s).events.Routed ↔ s.events.Routed := by
  unfold guardLatch; (repeat' split) <;> simp

@[simp] theorem guardInputChange_routed (i : GuardInput) (high : Bool) (s : State) :
    (guardInputChange i high s).events.Routed ↔ s.events.Routed := by
  unfold guardInputChange; dsimp only; split <;> simp

@[simp] theorem supplyPauseExpiry_routed (s : State) : (supplyPauseExpiry s).events.Routed ↔ s.events.Routed := by
  unfold supplyPauseExpiry supplyEntry; dsimp only; (repeat' split) <;> simp

@[simp] theorem settleExpiry_routed (s : State) : (settleExpiry s).events.Routed ↔ s.events.Routed := by
  unfold settleExpiry; split <;> simp

@[simp] theorem cycleStart_events (s : State) : (cycleStart s).events = s.events := rfl

@[simp] theorem demandRampEnd_routed (s : State) : (demandRampEnd s).events.Routed ↔ s.events.Routed := by
  unfold demandRampEnd; split <;> simp

@[simp] theorem cycleEnd_routed (s : State) : (cycleEnd s).events.Routed ↔ s.events.Routed := by
  unfold cycleEnd reportLoss; dsimp only; split <;> simp

@[simp] theorem statusMessage_routed (bytes : List Byte) (monitorsFirst : Bool) (s : State) :
    (statusMessage bytes monitorsFirst s).events.Routed ↔ s.events.Routed := by
  unfold statusMessage passAcceptance acceptStatus; (repeat' split) <;> simp

@[simp] theorem dwellExpiry_events (s : State) : (dwellExpiry s).events = s.events := by
  unfold dwellExpiry; (repeat' split) <;> simp

@[simp] theorem standstillExpiry_routed (s : State) : (standstillExpiry s).events.Routed ↔ s.events.Routed := by
  unfold standstillExpiry; (repeat' split) <;> simp

@[simp] theorem stepExpiry_events (s : State) : (stepExpiry s).events = s.events := by
  unfold stepExpiry; (repeat' split) <;> simp

@[simp] theorem runTimeTick_events (s : State) : (runTimeTick s).events = s.events := by
  unfold runTimeTick; split <;> simp

@[simp] theorem filterExpiry_routed (m : FilteredMonitor) (s : State) :
    (filterExpiry m s).events.Routed ↔ s.events.Routed := by
  unfold filterExpiry; split <;> simp

@[simp] theorem oilRequestExpiry_events (s : State) : (oilRequestExpiry s).events = s.events := by
  unfold oilRequestExpiry; split <;> simp

@[simp] theorem staleExpiry_routed (s : State) : (staleExpiry s).events.Routed ↔ s.events.Routed := by
  unfold staleExpiry; split <;> simp

@[simp] theorem stallTimerExpiry_events (s : State) : (stallTimerExpiry s).events = s.events := by
  rw [stallTimerExpiry_eq]; split <;> simp

@[simp] theorem fillExpiry_events (s : State) : (fillExpiry s).events = s.events := by
  unfold fillExpiry grossLeak; split <;> simp

@[simp] theorem leakSettleExpiry_events (s : State) : (leakSettleExpiry s).events = s.events := by
  unfold leakSettleExpiry; (repeat' split) <;> simp

@[simp] theorem measureExpiry_events (s : State) : (measureExpiry s).events = s.events := by
  unfold measureExpiry; (repeat' split) <;> simp

@[simp] theorem leakRequestExpiry_events (s : State) : (leakRequestExpiry s).events = s.events := by
  unfold leakRequestExpiry; split <;> simp

@[simp] theorem checkExpiry_events (s : State) : (checkExpiry s).events = s.events := by
  unfold checkExpiry; (repeat' split) <;> simp

@[simp] theorem conversionCompletion_routed (v : Word16) (s : State) :
    (conversionCompletion v s).events.Routed ↔ s.events.Routed := by
  unfold conversionCompletion; split <;> simp

/-! ## The step -/

theorem exec_routed (i : Instr) {s t : State} (h : s.events.Routed) (hexec : exec i s = .next t) : t.events.Routed := by
  have hrequest := requestEffect_routed i h
  cases i with
  | readyRequest | idleRequest | pauseRequest | resumeRequest | induct | start | abort | verdict | archive | recordRead
  | status | event | faultRead | clearFaults | faultReadAndClear | cellClear | recipeWrite | recipeRead
  | recipeValidate | patchWrite | patchRead | zeroCapture | zeroCheck | integrityLogRead | spotConvert | settingsWrite
  | settingsRead | routeWrite => cases hexec; exact hrequest
  | deviceReset inputs => cases hexec; exact resetWith_routed inputs
  | frameStart => cases hexec; exact h
  | frameEnd p bits => cases hexec; exact frameEnd_routed p bits h
  | unknownCommand p code => cases hexec; exact unknownCommand_routed p code h
  | guardInputChange | supplyPauseTimerExpiry | settleTimerExpiry | cycleStart | demandRampEnd | cycleEnd
  | statusMessage | dwellTimerExpiry | standstillTimerExpiry | stepTimerExpiry | runTimeTick | filterTimerExpiry
  | oilRequestTimerExpiry | staleTimerExpiry | encoderPulse | stallTimerExpiry | sampleArrival | fillTimerExpiry
  | leakSettleTimerExpiry | measureTimerExpiry | leakRequestTimerExpiry | checkTimerExpiry
  | conversionCompletion => cases hexec; simpa using h

theorem passTime_events (s : State) : (passTime s).events = s.events := rfl

theorem step_routed {s t : State} (h : s.events.Routed) (hstep : step s = .next t) : t.events.Routed := by
  unfold step at hstep
  split at hstep
  case h_1 =>
    cases hstep
    rw [passTime_events]
    exact h
  case h_2 c rest _ => exact exec_routed (s := s.withPending rest) c h hstep

/-! ## The status byte -/

/-- Bit 7 of a byte that is formed from a flag of weight 128 and a rest below it. -/
theorem byte_getLsbD_seven (b : Bool) {rest : Nat} (hrest : rest < 128) :
    (byte ((if b then 128 else 0) + rest)).getLsbD 7 = b := by
  have hread (n : Nat) : (byte n).getLsbD 7 = n.testBit 7 := by
    rw [byte, BitVec.getLsbD_ofNat]
    rfl
  have hbit : rest.testBit 7 = false := Nat.testBit_lt_two_pow hrest
  rw [hread]
  cases b with
  | false => simpa using hbit
  | true => simpa [hbit] using Nat.testBit_two_pow_add_eq rest 7

/-- Bit 7 of the status byte shows the attention output (R169, R170). -/
theorem statusByte_getLsbD_seven (s : State) (p : Port) : (statusByte s p).getLsbD 7 = attention s p := by
  simp only [statusByte, Nat.add_assoc]
  refine byte_getLsbD_seven _ ?_
  (repeat' split) <;> decide

/-- Settles O54: a step keeps every mark on a routed port, by `step_routed`, and the attention output and bit 7 of the status byte are
functions of the marks. -/
theorem marksStayRouted : Obligations.MarksStayRouted :=
  ⟨fun s t h hstep => (marksRouted_iff t).mpr (step_routed ((marksRouted_iff s).mp h) hstep),
    fun s p => ⟨attention_iff s p, statusByte_getLsbD_seven s p⟩⟩

end Sys2Proof.Machine
end


section
/-! SUPPORT. What the invariants of the part read of a state: its view. An operation that leaves the view is one rewriting rule; the
rules stand in the order of the model's files. -/

namespace Sys2Proof.Machine

/-! ## The view -/

/-- What the invariants read of a record: its state, and of a decided one all but the fields that still change (R150). -/
structure RecordView where
  state : RecordState
  kept : Option Record

def recordView (r : Record) : RecordView :=
  ⟨r.state, if r.state = .decided then some { r with released := false, archived := false, zero := none } else none⟩

/-- What the invariants read of the test context. -/
structure ContextView where
  copy : Items
  step : Nat
  phase : Phase
  dwell : Bool

def contextView (c : TestContext) : ContextView := ⟨c.copy, c.step, c.phase, c.dwell.isRunning⟩

/-- What the invariants read of a state. -/
structure View where
  mode : Mode
  enabled : Bool
  patches : Vector Patch 8
  direction : Direction
  limit : Nat
  ctx : Option ContextView
  held : DriveId → DriveStatus
  latches : Vector (Option Nat) 15
  running : FilteredMonitor → Bool
  lastP : Option Nat
  reference : Nat
  refValid : Bool
  ventOffset : Nat
  records : Fin 16 → Option RecordView

def view (s : State) : View :=
  { mode := s.mode.mode, enabled := driveEnable s, patches := s.store.patches, direction := s.demand.direction
    limit := s.demand.limit, ctx := s.ctx.map contextView, held := held s, latches := s.sup.latches
    running := fun m => (s.sup.filters.get m).isRunning, lastP := s.conv.lastP, reference := s.zero.reference
    refValid := s.zero.refValid, ventOffset := s.zero.ventOffset, records := fun i => (recordAt s i).map recordView }

/-! ## The setters -/

@[simp] theorem view_withNoise (s : State) (x : OrderAnalyser) : view (s.withNoise x) = view s := rfl
@[simp] theorem view_withLeak (s : State) (x : LeakController) : view (s.withLeak x) = view s := rfl
@[simp] theorem view_withPorts (s : State) (x : Ports) : view (s.withPorts x) = view s := rfl
@[simp] theorem view_withEvents (s : State) (x : EventUnit) : view (s.withEvents x) = view s := rfl
@[simp] theorem view_withTicks (s : State) (x : Stamp) : view (s.withTicks x) = view s := rfl
@[simp] theorem view_withOrders (s : State) (x : Nat) : view (s.withOrders x) = view s := rfl
@[simp] theorem view_withPending (s : State) (x : List Instr) : view (s.withPending x) = view s := rfl

theorem view_withMode (s : State) (x : ModeController) (hmode : x.mode = s.mode.mode)
    (henabled : driveEnable (s.withMode x) = driveEnable s) : view (s.withMode x) = view s := by
  simp only [view, henabled]
  simp only [State.withMode_mode, hmode]
  rfl

@[simp] theorem view_withMode_same (s : State) (x : ModeController) (hmode : x.mode = s.mode.mode)
    (hguards : x.guards = s.mode.guards) : view (s.withMode x) = view s :=
  view_withMode s x hmode (by simp [driveEnable, hmode, hguards])

@[simp] theorem view_withStore (s : State) (x : RecipeStore) (h : x.patches = s.store.patches) :
    view (s.withStore x) = view s := by
  simp only [view, State.withStore_store, h]
  rfl

@[simp] theorem view_withDemand (s : State) (x : Demand) (hdir : x.direction = s.demand.direction)
    (hlimit : x.limit = s.demand.limit) : view (s.withDemand x) = view s := by
  simp only [view, State.withDemand_demand, hdir, hlimit]
  rfl

@[simp] theorem view_withCtx (s : State) (x : Option TestContext) (h : x.map contextView = s.ctx.map contextView) :
    view (s.withCtx x) = view s := by
  simp only [view, State.withCtx_ctx, h]
  rfl

@[simp] theorem view_withLink (s : State) (x : DriveLink) (h : ∀ d, (x.drives.get d).held = held s d) :
    view (s.withLink x) = view s := by
  have hheld : held (s.withLink x) = held s := funext h
  simp only [view, hheld]
  rfl

@[simp] theorem view_withSup (s : State) (x : Supervision) (hlatches : x.latches = s.sup.latches)
    (hfilters : x.filters = s.sup.filters) : view (s.withSup x) = view s := by
  simp only [view, State.withSup_sup, hlatches, hfilters]
  rfl

@[simp] theorem view_withZero (s : State) (x : ZeroCheck) (href : x.reference = s.zero.reference)
    (hvalid : x.refValid = s.zero.refValid) (hoffset : x.ventOffset = s.zero.ventOffset) :
    view (s.withZero x) = view s := by
  simp only [view, State.withZero_zero, href, hvalid, hoffset]
  rfl

@[simp] theorem view_withConv (s : State) (x : Arbiter) (h : x.lastP = s.conv.lastP) :
    view (s.withConv x) = view s := by
  simp only [view, State.withConv_conv, h]
  rfl

theorem view_withQueue (s : State) (x : RecordQueue)
    (h : ∀ i, (recordAt (s.withQueue x) i).map recordView = (recordAt s i).map recordView) :
    view (s.withQueue x) = view s := by
  have hrecords : (fun i => (recordAt (s.withQueue x) i).map recordView) = fun i => (recordAt s i).map recordView :=
    funext h
  simp only [view, hrecords]
  rfl

/-! ## Operations of Ops.lean -/

@[simp] theorem view_raise (e : Event) (s : State) : view (raise e s) = view s := rfl

theorem modifyRecord_eq_withQueue (i : Fin 16) (f : Record → Record) (s : State) :
    modifyRecord i f s = s.withQueue (modifyRecord i f s).queue := by
  unfold modifyRecord; split <;> rfl

/-- A change of one record that its view does not show. -/
theorem view_modifyRecord (i : Fin 16) (f : Record → Record) (s : State)
    (h : ∀ r, recordAt s i = some r → recordView (f r) = recordView r) : view (modifyRecord i f s) = view s := by
  rw [modifyRecord_eq_withQueue]
  refine view_withQueue s _ fun j => ?_
  rw [← modifyRecord_eq_withQueue, recordAt_modifyRecord]
  split
  case isTrue hj =>
    subst hj
    cases hr : recordAt s j with
    | none => rfl
    | some r => simp [h r hr]
  case isFalse => rfl

@[simp] theorem view_modifyAll (f : Record → Record) (s : State) (h : ∀ r, recordView (f r) = recordView r) :
    view (modifyAll f s) = view s := by
  refine view_withQueue s _ fun j => ?_
  change (recordAt (modifyAll f s) j).map recordView = _
  rw [recordAt_modifyAll, Option.map_map]
  congr 1
  exact funext h

/-- A post that keeps the record's state. -/
theorem view_post (f : Record → Record) (s : State) (h : ∀ r, (f r).state = r.state) : view (post f s) = view s := by
  unfold post
  split
  case h_1 i hi =>
    refine view_modifyRecord i f s fun r hr => ?_
    obtain ⟨r', hr', hstate⟩ := onTestSlot_some hi
    obtain rfl : r' = r := Option.some.inj (hr'.symm.trans hr)
    simp [recordView, h, hstate]
  case h_2 => rfl

@[simp] theorem view_postRunIn (f : RunInSection → RunInSection) (s : State) : view (postRunIn f s) = view s :=
  view_post _ s fun _ => rfl

@[simp] theorem view_postNoise (f : NoiseSection → NoiseSection) (s : State) : view (postNoise f s) = view s :=
  view_post _ s fun _ => rfl

@[simp] theorem view_postLeak (f : LeakSection → LeakSection) (s : State) : view (postLeak f s) = view s :=
  view_post _ s fun _ => rfl

@[simp] theorem appendEntry_state (e : FaultEntry) (r : Record) : (appendEntry e r).state = r.state := by
  unfold appendEntry; split <;> rfl

@[simp] theorem view_appendFault (k : FaultKind) (v : Nat) (s : State) : view (appendFault k v s) = view s :=
  view_post _ s fun _ => appendEntry_state _ _

@[simp] theorem takeRequest_lastP (r : Requester) (a : Arbiter) : (takeRequest r a).lastP = a.lastP := by
  unfold takeRequest; split <;> rfl

@[simp] theorem grantRequest_lastP (a : Arbiter) : (grantRequest a).lastP = a.lastP := by
  unfold grantRequest; (repeat' split) <;> simp

@[simp] theorem grant_lastP (a : Arbiter) : (grant a).lastP = a.lastP := by
  unfold grant; split <;> simp

@[simp] theorem Arbiter.request_lastP (r : Requester) (q : Request) (a : Arbiter) :
    (a.request r q).lastP = a.lastP := by
  unfold Arbiter.request; dsimp only; split <;> simp

@[simp] theorem Arbiter.withdraw_lastP (r : Requester) (a : Arbiter) : (a.withdraw r).lastP = a.lastP := (rfl)

@[simp] theorem view_request (r : Requester) (q : Request) (s : State) : view (request r q s) = view s := by
  simp [request]

@[simp] theorem view_withdraw (r : Requester) (s : State) : view (withdraw r s) = view s := by
  simp [withdraw]

@[simp] theorem view_requestUnlessPending (r : Requester) (q : Request) (s : State) :
    view (requestUnlessPending r q s) = view s := by
  unfold requestUnlessPending; split <;> simp

@[simp] theorem view_reply (p : Port) (r : Reply) (s : State) : view (reply p r s) = view s := rfl

@[simp] theorem view_closeFrame (p : Port) (s : State) : view (closeFrame p s) = view s := rfl

/-! ## Operations of LeakOps.lean -/

@[simp] theorem view_leakLeave (s : State) : view (leakLeave s) = view s := by
  simp [leakLeave]

@[simp] theorem view_leakEnterVent (s : State) : view (leakEnterVent s) = view s := by
  simp [leakEnterVent]

@[simp] theorem view_leakUndecided (s : State) : view (leakUndecided s) = view s := by
  unfold leakUndecided; split <;> simp

@[simp] theorem view_leakToVent (s : State) : view (leakToVent s) = view s := by
  unfold leakToVent; dsimp only; split <;> simp

@[simp] theorem view_leakSetUp (s : State) : view (leakSetUp s) = view s := by
  simp [leakSetUp]

@[simp] theorem view_leakEnterFill (c : TestContext) (n : Nat) (s : State) : view (leakEnterFill c n s) = view s := by
  simp [leakEnterFill]

@[simp] theorem view_postEndReason (n : Nat) (w : EndReason) (s : State) : view (postEndReason n w s) = view s := by
  simp [postEndReason]

@[simp] theorem view_setLeakOutcome (o : LeakOutcome) (s : State) : view (setLeakOutcome o s) = view s := by
  simp [setLeakOutcome]

@[simp] theorem view_leakInterrupt (w : EndReason) (s : State) : view (leakInterrupt w s) = view s := by
  unfold leakInterrupt; dsimp only; split <;> simp

@[simp] theorem view_leakQuietOpening (c : TestContext) (s : State) : view (leakQuietOpening c s) = view s := by
  unfold leakQuietOpening; (repeat' split) <;> simp

@[simp] theorem view_leakStepStart (c : TestContext) (first : Bool) (s : State) :
    view (leakStepStart c first s) = view s := by
  unfold leakStepStart; (repeat' split) <;> simp

@[simp] theorem view_leakPause (s : State) : view (leakPause s) = view s := by
  unfold leakPause; split <;> simp

@[simp] theorem view_leakFinish (s : State) : view (leakFinish s) = view s := by
  unfold leakFinish; split <;> simp

@[simp] theorem view_leakFillReading (v : Nat) (s : State) : view (leakFillReading v s) = view s := by
  unfold leakFillReading; dsimp only; (repeat' split) <;> simp

@[simp] theorem view_leakAskBurst (c : TestContext) (k : BurstKind) (s : State) :
    view (leakAskBurst c k s) = view s := by
  simp [leakAskBurst]

@[simp] theorem view_leakCompute (c : TestContext) (a e : PressureTemp) (s : State) :
    view (leakCompute c a e s) = view s := by
  unfold leakCompute; dsimp only; split <;> simp

@[simp] theorem view_leakBurstDone (c : TestContext) (k : BurstKind) (s : State) :
    view (leakBurstDone c k s) = view s := by
  unfold leakBurstDone; dsimp only; (repeat' split) <;> simp

@[simp] theorem view_leakReading (ch : Channel) (v : Nat) (s : State) : view (leakReading ch v s) = view s := by
  unfold leakReading; dsimp only; (repeat' split) <;> simp

/-! ## Operations of MonitorOps.lean, TestOps.lean and SequenceOps.lean -/

@[simp] theorem view_abandonBlock (s : State) : view (abandonBlock s) = view s := rfl

@[simp] theorem view_abandonCheck (s : State) : view (abandonCheck s) = view s := by
  unfold abandonCheck; split <;> simp

@[simp] theorem view_abandonCheckOf (p : CheckKind → Bool) (s : State) : view (abandonCheckOf p s) = view s := by
  unfold abandonCheckOf; (repeat' split) <;> simp

@[simp] theorem view_dropTarget (s : State) : view (dropTarget s) = view s := by
  unfold dropTarget; split <;> simp

@[simp] theorem demandStopped_direction (d : Demand) : (demandStopped d).direction = d.direction := rfl
@[simp] theorem demandStopped_limit (d : Demand) : (demandStopped d).limit = d.limit := rfl

@[simp] theorem startRamp_direction (target length : Nat) (d : Demand) :
    (startRamp target length d).direction = d.direction := by
  unfold startRamp; split <;> rfl

@[simp] theorem startRamp_limit (target length : Nat) (d : Demand) : (startRamp target length d).limit = d.limit := by
  unfold startRamp; split <;> rfl

@[simp] theorem view_pauseRunIn (s : State) : view (pauseRunIn s) = view s := by
  unfold pauseRunIn
  split
  case h_1 c hc =>
    split
    · rfl
    · rw [view_withDemand _ _ (by simp) (by simp), view_withCtx _ _ (by rw [hc]; rfl)]
  case h_2 => rfl

@[simp] theorem view_startCheck (k : CheckKind) (s : State) : view (startCheck k s) = view s := by
  simp [startCheck]

@[simp] theorem view_postTorque (d : DriveId) (s : State) : view (postTorque d s) = view s := by
  unfold postTorque; split <;> simp

/-! ## Operations of OrderOps.lean -/

@[simp] theorem view_discardBlock (s : State) : view (discardBlock s) = view s := by
  simp [discardBlock]

theorem postSlot_state (c : TestContext) (blk : Block) (b : Nat) (r : Record) (j : Nat) :
    (postSlot c blk b r j).state = r.state := by
  unfold postSlot
  split
  · rfl
  · split
    · rfl
    · dsimp only; split <;> simp

theorem postBlock_state (c : TestContext) (blk : Block) (b : Nat) (r : Record) :
    (postBlock c blk b r).state = r.state := by
  simp [postBlock, List.foldl, postSlot_state]

@[simp] theorem view_closeBlock (c : TestContext) (blk : Block) (stamp : Stamp) (s : State) :
    view (closeBlock c blk stamp s) = view s := by
  unfold closeBlock
  (repeat' split) <;> simp [view_post, postBlock_state]

@[simp] theorem view_pulseBlock (blk : Block) (stamp : Stamp) (e : Direction) (s : State) :
    view (pulseBlock blk stamp e s) = view s := by
  unfold pulseBlock; dsimp only; (repeat' split) <;> simp

@[simp] theorem view_considerStart (stamp : Stamp) (e : Direction) (s : State) :
    view (considerStart stamp e s) = view s := by
  unfold considerStart; split <;> simp

@[simp] theorem view_encoderPulse (stamp : Stamp) (e : Direction) (s : State) :
    view (encoderPulse stamp e s) = view s := by
  unfold encoderPulse; dsimp only; split <;> simp

@[simp] theorem view_sampleArrival (stamp : Stamp) (w : SampleWord) (s : State) :
    view (sampleArrival stamp w s) = view s := by
  unfold sampleArrival; dsimp only; (repeat' split) <;> simp

@[simp] theorem view_stallTimerExpiry (s : State) : view (stallTimerExpiry s) = view s := by
  unfold stallTimerExpiry stallExpiry; dsimp only; (repeat' split) <;> simp

/-! ## Requests and expiries that leave the view -/

@[simp] theorem view_refuseAccess (p : Port) (c : Command) (s : State) : view (refuseAccess p c s) = view s := rfl

@[simp] theorem rampUpdate_direction (d : Demand) : (rampUpdate d).direction = d.direction := by
  unfold rampUpdate; (repeat' split) <;> rfl

@[simp] theorem rampUpdate_limit (d : Demand) : (rampUpdate d).limit = d.limit := by
  unfold rampUpdate; (repeat' split) <;> rfl

@[simp] theorem view_cycleStart (s : State) : view (cycleStart s) = view s := by
  have hctx : (s.ctx.map fun c => { c with stepTimer := c.stepTimer.cycle }).map contextView = s.ctx.map contextView := by
    cases s.ctx <;> rfl
  calc view (cycleStart s)
      = view ((s.withDemand (rampUpdate s.demand)).withCtx
          (s.ctx.map fun c => { c with stepTimer := c.stepTimer.cycle })) := view_withLink _ _ fun _ => rfl
    _ = view (s.withDemand (rampUpdate s.demand)) := view_withCtx _ _ hctx
    _ = view s := view_withDemand s _ (rampUpdate_direction _) (rampUpdate_limit _)

@[simp] theorem Timer.pass_isRunning (n : Nat) (t : Timer) : (t.pass n).isRunning = t.isRunning := by
  cases t <;> rfl

/-- A millisecond moves no timer into or out of running. -/
@[simp] theorem view_passTime (s : State) : view (passTime s) = view s := by
  have hctx : (s.ctx.map passContext).map contextView = s.ctx.map contextView := by
    cases s.ctx <;> simp [passContext, contextView]
  have hrunning : (fun m => ((passSupervision s.sup).filters.get m).isRunning) =
      fun m => (s.sup.filters.get m).isRunning := by
    funext m
    cases m <;> simp [passSupervision, Filters.get]
  simp only [view, passTime, State.withTicks_sup, State.withZero_sup, State.withLeak_sup, State.withNoise_sup,
    State.withSup_sup, State.withTicks_ctx, State.withZero_ctx, State.withLeak_ctx, State.withNoise_ctx, State.withSup_ctx,
    State.withCtx_ctx, State.withMode_ctx, State.withCtx_sup, State.withMode_sup, hctx, hrunning]
  rfl

@[simp] theorem view_oilRequestExpiry (s : State) : view (oilRequestExpiry s) = view s := by
  unfold oilRequestExpiry; split <;> simp

@[simp] theorem view_checkExpiry (s : State) : view (checkExpiry s) = view s := by
  unfold checkExpiry; (repeat' split) <;> simp

@[simp] theorem view_runTimeTick (s : State) : view (runTimeTick s) = view s := by
  unfold runTimeTick; split <;> simp

@[simp] theorem view_fillExpiry (s : State) : view (fillExpiry s) = view s := by
  unfold fillExpiry grossLeak; split <;> simp

@[simp] theorem view_leakSettleExpiry (s : State) : view (leakSettleExpiry s) = view s := by
  unfold leakSettleExpiry; (repeat' split) <;> simp

@[simp] theorem view_measureExpiry (s : State) : view (measureExpiry s) = view s := by
  unfold measureExpiry; (repeat' split) <;> simp

@[simp] theorem view_leakRequestExpiry (s : State) : view (leakRequestExpiry s) = view s := by
  unfold leakRequestExpiry; split <;> simp

/-! ## Zero statuses, which still change in a decided record (R128) -/

@[simp] theorem recordView_judgeStatus (z : ZeroStatus) (r : Record) : recordView (judgeStatus z r) = recordView r := by
  unfold judgeStatus; split <;> rfl

@[simp] theorem recordView_setZeroStatus (z : ZeroStatus) (r : Record) :
    recordView (setZeroStatus z r) = recordView r := rfl

@[simp] theorem view_setCurrent (i : Option (Fin 16)) (z : ZeroStatus) (s : State) :
    view (setCurrent i z s) = view s := by
  unfold setCurrent
  split
  · exact view_modifyRecord _ _ s fun r _ => recordView_setZeroStatus z r
  · rfl

end Sys2Proof.Machine
end


section
/-! SUPPORT. A property that survives the effects below, of which the commands are made, survives every command. The walk through the
commands is made here once; each invariant then answers for the effects alone. -/

namespace Sys2Proof.Machine

/-- `c` is the context of a test in FINISH, as it stands in the state but for its stage and its standstill timer. -/
def FinishOf (c : TestContext) (s : State) : Prop :=
  ∃ b x, s.ctx = some b ∧ b.phase = .finish x ∧ b.copy = c.copy ∧ b.step = c.step ∧ b.dwell = c.dwell

/-- The turn of the direction at the dwell's end (R44), before the ramp starts. -/
def turned (c : TestContext) (s : State) : State :=
  (s.withDemand { s.demand with direction := stepDirection c.copy c.step }).withCtx
    (some { c with phase := .ramp, dwell := .stopped, standstill := .stopped })

/-- An admitted START (R148) before its step 0 starts. -/
def started (i : Fin 16) (copy : Items) (s : State) : State :=
  let s := leakSetUp (modifyRecord i (startRecord copy) s)
  let s := s.withNoise { s.noise with discards := 0 }
  let s := s.withCtx (some (newContext copy))
  judgeMonitors (setMode .run (s.withDemand { s.demand with limit := inputTorqueLimit copy }))

/-- What a property `P` must survive to survive every command. `S` is what holds before the command, and `Q` what holds while a sequence of
steps goes on: both may ask for more than `P`. -/
structure Safe (S P Q : State → Prop) : Prop where
  start : ∀ {s}, S s → P s
  startQuiet : ∀ {s t}, view t = view s → S s → S t
  quiet : ∀ {s t}, view t = view s → P s → P t
  judge : ∀ {s}, P s → P (judgeMonitors s)
  latching : ∀ {k v s}, latchSet s k = false → P s → P (stopFilterOf k (storeLatch k v s))
  filterOff : ∀ {m s}, latchSet s (monitorLatch m) = true → P s → P (setFilter m .stopped s)
  stopped : ∀ {m s}, m = .stop ∨ m = .halt → P s → P (enterStopped m s)
  complete : ∀ {s}, P s → P (completionCheck s)
  decision : ∀ {s}, P s → P (normalDecision s)
  settle : ∀ {x s t}, P s → view t = view (endTest s) → P (enterSettle x t)
  settleReady : ∀ {x s}, s.mode.mode = .ready → P s → P (enterSettle x s)
  idle : ∀ {s}, s.mode.mode = .ready → Settled s → P s → P (judgeMonitors (setMode .idle s))
  ready : ∀ {s t}, s.mode.mode = .idle → P s → view t = view (setMode .ready s) → P (judgeMonitors t)
  pause : ∀ {k s}, s.mode.mode = .run → P s → P (enterPause k s)
  unpause : ∀ {s}, s.mode.mode = .pause → P s → P (referenceChange (setMode .run s))
  clear : ∀ {s}, P s → P (clearLatches s)
  cellStop : ∀ {s}, s.mode.mode = .stop → P s → P (clearLatches (endTest s))
  cellEnter : ∀ {s}, P s → P (enterStopped .stop (clearLatches (endTest s)))
  fell : ∀ {g s}, driveEnable s = true → driveEnable (s.withMode { s.mode with guards := g }) = false → P s →
    P (driveEnableFell (s.withMode { s.mode with guards := g }))
  rose : ∀ {g s t}, P s → view t = view (s.withMode { s.mode with guards := g }) → P (judgeMonitors t)
  finishStage : ∀ {c x hold s}, FinishOf c s → P s → P (toFinishStage c x hold s)
  reversal : ∀ {s}, P s → P (reversalCheck s)
  reversalWait : ∀ {c s}, s.ctx = some c → c.phase = .reverse .rampDown → P s → P (reversalWait c s)
  ofSequence : ∀ {s}, Q s → P s
  toSequence : ∀ {c s}, s.ctx = some c → c.phase ≠ .reverse .dwell → P s → Q s
  act : ∀ {a s}, Q s → P (seqAct a s).1
  actNext : ∀ {a b s}, Q s → (seqAct a s).2 = some b → Q (seqAct a s).1
  ramp : ∀ {c d s t}, s.ctx = some c → d.copy = c.copy → d.step = c.step → d.dwell = c.dwell → Q s →
    view t = view (s.withCtx (some d)) → Q (seqAct .enterRamp t).1
  turn : ∀ {c s}, s.ctx = some c → c.dwell.isRunning = true → S s →
    Q (seqAct .enterRamp (turned c s)).1 ∧ P (referenceChange (turned c s))
  begin : ∀ {i copy r s}, s.mode.mode = .ready → recordAt s i = some r → r.state = .queued → P s → Q (started i copy s)
  induct : ∀ {i serial recipe retest seq next s}, recordAt s i = none → S s →
    P (s.withQueue ⟨s.queue.slots.set i (some (newRecord serial recipe retest seq)), next⟩)
  remove : ∀ {i r s}, recordAt s i = some r → r.state = .decided → S s → P (removeRecord i s)
  patch : ∀ {entry enabled recipe sect index field value s}, P s →
    P (patchWriteDecide entry enabled recipe sect index field value s).2
  pressure : ∀ {x s}, S s → S (s.withConv x)
  reference : ∀ {v s}, S s → P (s.withZero { s.zero with reference := v, refValid := true })
  settings : ∀ {x s}, S s → P (writeSettings x s)

/-! ## A latching -/

/-- A latch that was CLEAR is set, posted and raised (R70). -/
def latched (k : LatchKind) (v : Nat) (s : State) : State :=
  let s := stopFilterOf k (storeLatch k v s)
  raise (.fault k v) (if k = .oilPrewarn then s else appendFault (.latch k) v s)

theorem latch_of_set {k : LatchKind} (v : Nat) {s : State} (h : latchSet s k = true) :
    latch k v s = if k.stopClass then stopCause s else s := by
  simp [latch, h]

theorem latch_of_clear {k : LatchKind} (v : Nat) {s : State} (h : latchSet s k = false) :
    latch k v s = if k.stopClass then stopCause (latched k v s) else latched k v s := by
  simp [latch, h, latched]

/-- The post and the event of a latching leave the view. -/
theorem view_latched (k : LatchKind) (v : Nat) (s : State) :
    view (latched k v s) = view (stopFilterOf k (storeLatch k v s)) := by
  unfold latched
  dsimp only
  rw [view_raise]
  split <;> simp

section
variable {S P Q : State → Prop} (K : Safe S P Q)
include K

/-! ## Latching, pauses and DRIVE ENABLE -/

theorem stopCause_safe {s : State} (h : P s) : P (stopCause s) := by
  unfold stopCause
  split
  · exact K.stopped (Or.inl rfl) h
  · exact h

theorem enterHalt_safe {s : State} (h : P s) : P (enterHalt s) :=
  K.stopped (Or.inr rfl) (K.quiet (view_raise _ s) h)

/-- What a latching does after the latch is set leaves the view. -/
theorem latched_safe (k : LatchKind) (v : Nat) {s : State} (h : P (stopFilterOf k (storeLatch k v s))) :
    P (latched k v s) :=
  K.quiet (view_latched k v s) h

theorem latch_safe {s : State} (k : LatchKind) (v : Nat) (h : P s) : P (latch k v s) := by
  cases hset : latchSet s k with
  | true =>
    rw [latch_of_set v hset]
    split
    · exact stopCause_safe K h
    · exact h
  | false =>
    have hlatched := latched_safe K k v (K.latching (v := v) hset h)
    rw [latch_of_clear v hset]
    split
    · exact stopCause_safe K hlatched
    · exact hlatched

theorem supplyJudge_safe {s : State} (h : P s) : P (supplyJudge s) := by
  unfold supplyJudge
  split
  · dsimp only
    split
    · exact K.pause ‹_› (latch_safe K _ _ h)
    · exact latch_safe K _ _ h
  · exact h

theorem driveFaultJudge_safe {s : State} (h : P s) : P (driveFaultJudge s) := by
  unfold driveFaultJudge
  split
  · split
    · exact latch_safe K _ _ h
    · exact h
  · exact h

theorem eitherOrder_safe {f g : State → State} (hf : ∀ {s}, P s → P (f s)) (hg : ∀ {s}, P s → P (g s))
    (matters : Bool) {s : State} (h : P s) : P (eitherOrder matters f g s) := by
  have hcounted : P (s.withOrders (s.orders + 1)) := K.quiet (view_withOrders s _) h
  unfold eitherOrder
  split
  · dsimp only
    split
    · exact hg (hf hcounted)
    · exact hf (hg hcounted)
  · exact hg (hf h)

theorem driveEnableRose_safe {s : State} (h : ∀ t, view t = view s → P (judgeMonitors t)) :
    P (driveEnableRose s) := by
  refine eitherOrder_safe K (driveFaultJudge_safe K) (supplyJudge_safe K) _ (h _ ?_)
  simp

/-! ## The end of a test -/

omit K in
theorem finishOf_toFinishStage (c : TestContext) (x : FinishStage) (hold : Bool) (s : State) :
    FinishOf c (toFinishStage c x hold s) := ⟨_, x, rfl, rfl, rfl, rfl, rfl⟩

theorem decisionDue_safe {c : TestContext} {s : State} (hc : FinishOf c s) (h : P s) : P (decisionDue c s) := by
  unfold decisionDue
  split
  · exact K.decision (K.finishStage hc h)
  · exact K.finishStage hc h

theorem zeroAsk_safe {c : TestContext} {s : State} (hc : FinishOf c s) (h : P s) : P (zeroAsk c s) := by
  unfold zeroAsk
  split
  · exact K.quiet (view_startCheck _ _) (K.finishStage hc h)
  · exact decisionDue_safe K hc h

theorem enterZeroWait_safe {c : TestContext} {s : State} (hc : FinishOf c s) (h : P s) : P (enterZeroWait c s) := by
  unfold enterZeroWait
  split
  · exact zeroAsk_safe K (finishOf_toFinishStage ..) (K.finishStage hc h)
  · exact K.finishStage hc h

omit K in
theorem finishOf_self {c : TestContext} {x : FinishStage} {s : State} (hc : s.ctx = some c)
    (hphase : c.phase = .finish x) : FinishOf c s := ⟨c, x, hc, hphase, rfl, rfl, rfl⟩

theorem leakDoneReport_safe {s : State} (h : P s) : P (leakDoneReport s) := by
  unfold leakDoneReport
  split
  case h_1 c hc =>
    split
    case isTrue hphase => exact enterZeroWait_safe K (finishOf_self hc hphase) h
    case isFalse => exact h
  case h_2 => exact h

theorem zeroAnswer_safe {s : State} (h : P s) : P (zeroAnswer s) := by
  unfold zeroAnswer
  split
  case h_1 c hc =>
    split
    case isTrue hphase => exact decisionDue_safe K (finishOf_self hc hphase) h
    case isFalse => exact h
  case h_2 => exact h

theorem enterVentWait_safe {c : TestContext} {s : State} (hc : FinishOf c s) (h : P s) : P (enterVentWait c s) := by
  unfold enterVentWait
  split
  · exact enterZeroWait_safe K hc h
  · exact K.finishStage hc h

theorem finishCheck_safe {s : State} (h : P s) : P (finishCheck s) := by
  unfold finishCheck
  split
  case h_1 c hc =>
    split
    case isTrue hrest =>
      have hfinish : FinishOf { c with standstill := .stopped } s := ⟨c, _, hc, hrest.1, rfl, rfl, rfl⟩
      dsimp only
      split
      · exact enterVentWait_safe K hfinish h
      · exact enterZeroWait_safe K hfinish h
    case isFalse => exact h
  case h_2 => exact h

theorem finishWait_safe {c : TestContext} {s : State} (hc : FinishOf c s) (h : P s) : P (finishWait c s) :=
  finishCheck_safe K
    (K.finishStage (c := { c with standstill := .running Config.standstillMs }) (x := .standstillWait)
      (hold := c.requestHeld) hc h)

theorem makeHeldRequest_safe {c : TestContext} {x : FinishStage} {s : State} (hc : s.ctx = some c)
    (hphase : c.phase = .finish x) (h : P s) : P (makeHeldRequest c s) := by
  have hfinish := finishOf_self hc hphase
  unfold makeHeldRequest
  split
  · split
    · exact zeroAsk_safe K hfinish h
    · exact decisionDue_safe K hfinish h
    all_goals exact h
  · exact h

/-! ## The test's way through its steps -/

theorem runSequence_safe (fuel : Nat) {a : SeqAction} {s : State} (h : Q s) : P (runSequence fuel a s) := by
  induction fuel generalizing a s with
  | zero => exact K.ofSequence h
  | succ fuel ih =>
    unfold runSequence
    split
    case h_1 s' b hact =>
      have hnext := K.actNext (a := a) (b := b) h (by rw [hact])
      rw [hact] at hnext
      exact ih hnext
    case h_2 s' hact =>
      have hdone := K.act (a := a) h
      rw [hact] at hdone
      exact hdone

theorem sequence_safe {a : SeqAction} {s : State} (h : Q s) : P (sequence a s) := runSequence_safe K _ h

/-- A sequence after whose first action the property stands. -/
theorem sequence_safe_of_first {a : SeqAction} {s : State} (h : Q (seqAct a s).1) : P (sequence a s) := by
  change P (runSequence (1599 + 1) a s)
  unfold runSequence
  split
  case h_1 s' b hact =>
    rw [hact] at h
    exact runSequence_safe K _ h
  case h_2 s' hact =>
    rw [hact] at h
    exact K.ofSequence h

theorem resumeStep_safe {c : TestContext} {s : State} (hc : s.ctx = some c) (h : Q s) : P (resumeStep c s) := by
  refine sequence_safe_of_first K
    (K.ramp (d := { c with resumeRamp := true, phase := .ramp }) hc rfl rfl rfl h ?_)
  split <;> simp

theorem resumeRunIn_safe {s : State} (h : P s) : P (resumeRunIn s) := by
  unfold resumeRunIn
  split
  case h_1 c hc =>
    split
    case h_1 hphase => exact resumeStep_safe K hc (K.toSequence hc (by simp [hphase]) h)
    case h_2 hphase => exact resumeStep_safe K hc (K.toSequence hc (by simp [hphase]) h)
    case h_3 => exact h
    case h_4 hphase => exact makeHeldRequest_safe K hc hphase h
  case h_2 => exact h

theorem resume_safe {s : State} (hmode : s.mode.mode = .pause) (h : P s) : P (resume s) :=
  supplyJudge_safe K (resumeRunIn_safe K (K.unpause hmode h))

theorem reportRampEnd_safe {s : State} (h : P s) : P (reportRampEnd s) := by
  unfold reportRampEnd
  split
  case h_1 c hc =>
    split
    case h_1 hphase =>
      split
      · exact sequence_safe K (K.toSequence hc (by simp [hphase]) h)
      · exact h
    case h_2 hphase => exact K.reversalWait hc hphase h
    case h_3 hphase => exact finishWait_safe K (finishOf_self hc hphase) h
    all_goals exact h
  case h_2 => exact h

theorem dwellExpiry_safe {s : State} (h : S s) : P (dwellExpiry s) := by
  unfold dwellExpiry
  split
  case h_1 c hc =>
    split
    case isTrue hdwell =>
      obtain ⟨hramp, hreference⟩ := K.turn hc hdwell h
      change P (if (turned c s).mode.mode = .run then sequence .enterRamp (turned c s)
        else referenceChange (turned c s))
      split
      · exact sequence_safe_of_first K hramp
      · exact hreference
    case isFalse => exact K.start h
  case h_2 => exact K.start h

theorem stepExpiry_safe {s : State} (h : P s) : P (stepExpiry s) := by
  unfold stepExpiry
  split
  case h_1 c hc =>
    split
    case isTrue hhold => exact sequence_safe K (K.toSequence hc (by simp [hhold.1]) h)
    case isFalse => exact h
  case h_2 => exact h

theorem standstillExpiry_safe {s : State} (h : P s) : P (standstillExpiry s) := by
  unfold standstillExpiry
  split
  case h_1 c hc =>
    split
    · exact latch_safe K _ _ (K.quiet (view_withCtx s _ (by rw [hc]; rfl)) h)
    · exact h
  case h_2 => exact h

/-! ## An accepted status message -/

theorem runInAccept_safe (d : DriveId) {s : State} (h : P s) : P (runInAccept d s) :=
  finishCheck_safe K (K.reversal (K.quiet (view_postTorque d s) h))

theorem modeAccept_safe (d : DriveId) {s : State} (h : P s) : P (modeAccept d s) := by
  refine K.complete ?_
  split
  · exact K.quiet (by simp) h
  · exact h

theorem driveFaultAccept_safe (d : DriveId) {s : State} (h : P s) : P (driveFaultAccept d s) := by
  unfold driveFaultAccept
  split
  · exact latch_safe K _ _ h
  · exact h

theorem supplyAccept_safe {s : State} (h : P s) : P (supplyAccept s) := by
  unfold supplyAccept
  split
  case isTrue hrecovers =>
    refine resume_safe K ?_ h
    simp only [supplyRecovers, Bool.and_eq_true, beq_iff_eq] at hrecovers
    obtain ⟨⟨-, hmode⟩, -⟩ := hrecovers
    exact hmode
  case isFalse => exact supplyJudge_safe K h

/-- The monitors' part of an acceptance, after their judgement. -/
theorem monitorsAccept_safe_of_judged (d : DriveId) {s : State} (h : P (judgeMonitors s)) :
    P (monitorsAccept d s) :=
  eitherOrder_safe K (driveFaultAccept_safe K d) (supplyAccept_safe K) _ h

theorem passAcceptance_safe (d : DriveId) (first : Bool) {s : State} (h : P s) : P (passAcceptance d first s) := by
  unfold passAcceptance
  split
  · exact modeAccept_safe K d (runInAccept_safe K d (monitorsAccept_safe_of_judged K d (K.judge h)))
  · exact monitorsAccept_safe_of_judged K d (K.judge (modeAccept_safe K d (runInAccept_safe K d h)))

/-! ## Checks, oil readings and conversions -/

theorem answerOf_safe (k : CheckKind) {s : State} (h : P s) : P (answerOf k s) := by
  unfold answerOf
  split
  · exact zeroAnswer_safe K h
  · exact h

theorem goodCheck_safe (k : CheckKind) (average : Nat) {s : State} (h : P s) : P (goodCheck k average s) :=
  answerOf_safe K k (K.quiet (by simp) h)

theorem applyPolicy_safe (k : CheckKind) {s : State} (h : P s) : P (applyPolicy k s) := by
  unfold applyPolicy
  split
  · exact enterHalt_safe K h
  · exact answerOf_safe K k (K.quiet (by simp) h)

theorem failedCheck_safe (k : CheckKind) (average : Nat) {s : State} (h : P s) : P (failedCheck k average s) := by
  refine applyPolicy_safe K k (K.quiet ?_ h)
  split <;> simp

theorem judgeCheck_safe (k : CheckKind) {s : State} (h : S s) : P (judgeCheck k s) := by
  have hended : S (s.withZero { s.zero with check := none, timer := .stopped }) :=
    K.startQuiet (view_withZero s _ rfl rfl rfl) h
  unfold judgeCheck
  dsimp only
  split
  · exact goodCheck_safe K _ _ (K.reference hended)
  · split
    · exact goodCheck_safe K _ _ (K.start hended)
    · exact failedCheck_safe K _ _ (K.start hended)

theorem zeroReading_safe (v : Nat) {s : State} (h : S s) : P (zeroReading v s) := by
  unfold zeroReading
  split
  case h_1 k _ =>
    have hadded : S (s.withZero { s.zero with sum := s.zero.sum + v, count := s.zero.count + 1 }) :=
      K.startQuiet (view_withZero s _ rfl rfl rfl) h
    dsimp only
    split
    · exact judgeCheck_safe K k hadded
    · exact K.start hadded
  case h_2 => exact K.start h

theorem withSup_oilCount_safe (n : Nat) {s : State} (h : P s) : P (s.withSup { s.sup with oilCount := n }) :=
  K.quiet (view_withSup s _ rfl rfl) h

theorem oilThresholds_safe (c : TestContext) (v : Nat) {s : State} (h : P s) : P (oilThresholds c v s) := by
  have hwarned : P (if oilPrewarn c.copy ≤ v then latch .oilPrewarn v s else s) := by
    split
    · exact latch_safe K _ _ h
    · exact h
  unfold oilThresholds
  dsimp only
  generalize (if oilPrewarn c.copy ≤ v then latch .oilPrewarn v s else s) = t at hwarned ⊢
  split
  · split
    · exact withSup_oilCount_safe K _ hwarned
    · exact latch_safe K _ _ (withSup_oilCount_safe K _ hwarned)
  · exact withSup_oilCount_safe K _ hwarned

theorem oilJudge_safe (v : Nat) {s : State} (h : P s) : P (oilJudge v s) := by
  unfold oilJudge
  split
  · split
    · exact oilThresholds_safe K _ v h
    · exact withSup_oilCount_safe K _ h
  · exact latch_safe K _ _ (withSup_oilCount_safe K _ h)

omit K in
theorem view_oilPosted (c : Option TestContext) (judged : Bool) (v : Nat) (s : State) :
    view (match c with
      | some c => postRunIn (oilSection c judged v) s
      | none => s) = view s := by
  cases c <;> simp

theorem oilReading_safe (expected : Bool) (v : Nat) {s : State} (h : P s) : P (oilReading expected v s) := by
  unfold oilReading
  dsimp only
  split
  · exact oilJudge_safe K v (K.quiet ((view_oilPosted _ _ v _).trans (view_withSup s _ rfl rfl)) h)
  · exact K.quiet ((view_oilPosted _ _ v _).trans (view_withSup s _ rfl rfl)) h

theorem ventReading_safe (v : Nat) {s : State} (h : P s) : P (ventReading v s) := by
  unfold ventReading
  split
  · exact leakDoneReport_safe K (K.quiet (by simp) h)
  · exact h

theorem deliver_safe (c : Conversion) (v : Nat) {s : State} (h : S s) : P (deliver c v s) := by
  have hP := K.start h
  unfold deliver
  split
  · split
    · exact K.quiet (view_leakReading _ _ s) hP
    · exact hP
  · split
    · exact zeroReading_safe K v h
    · exact hP
  · exact oilReading_safe K _ v hP
  · exact K.quiet (view_raise _ s) hP

theorem passPressure_safe (c : Conversion) (v : Nat) {s : State} (h : P s) : P (passPressure c v s) := by
  unfold passPressure
  split
  · exact K.complete (ventReading_safe K v h)
  · exact h

theorem conversionCompletion_safe (v : Word16) {s : State} (h : S s) : P (conversionCompletion v s) := by
  unfold conversionCompletion
  split
  case h_1 c _ =>
    exact K.quiet (view_withConv _ _ (grant_lastP _)) (passPressure_safe K c _ (deliver_safe K c _ (K.pressure h)))
  case h_2 => exact K.start h

/-! ## Requests -/

theorem readyDecide_safe {s : State} (h : P s) : P (readyDecide s).2 := by
  unfold readyDecide
  split
  case h_1 hidle =>
    split
    · exact driveEnableRose_safe K fun t ht => K.ready hidle h ht
    · exact h
  all_goals exact h

theorem abortTest_settle_safe (x : Target) (cause : Nat) {s t : State} (h : P s)
    (ht : view t = view (abortTest cause s)) : P (enterSettle x t) :=
  K.settle (K.quiet (by simp) h) ht

theorem idleDecide_safe {s : State} (h : P s) : P (idleDecide s).2 := by
  unfold idleDecide
  split
  case h_1 hready =>
    split
    case isTrue hsettled => exact K.idle hready (by simpa [Settled] using hsettled) h
    case isFalse => exact K.settleReady (by simpa using hready) (K.quiet (view_raise _ s) h)
  case h_2 => exact abortTest_settle_safe K _ 3 h (view_raise _ _)
  case h_3 => exact abortTest_settle_safe K _ 3 h (view_raise _ _)
  case h_4 => exact K.complete (K.quiet (view_withMode_same s { s.mode with target := some .idle } rfl rfl) h)
  all_goals exact h

theorem pauseDecide_safe {s : State} (h : P s) : P (pauseDecide s).2 := by
  unfold pauseDecide
  split
  case isTrue hrun => exact K.pause hrun h
  case isFalse => exact h

theorem resumeDecide_safe {s : State} (h : P s) : P (resumeDecide s).2 := by
  unfold resumeDecide
  split
  case isTrue hpause => exact resume_safe K hpause.1 h
  case isFalse => split <;> exact h

theorem abortDecide_safe (p : Port) {s : State} (h : P s) : P (abortDecide p s).2 := by
  unfold abortDecide
  split
  · exact abortTest_settle_safe K _ _ h rfl
  · exact h

omit K in
theorem emptySlot_some {s : State} {i : Fin 16} (h : emptySlot s = some i) : recordAt s i = none := by
  simpa using List.find?_some h

theorem inductDecide_safe (serial : List Byte) (recipe : Byte) {s : State} (hS : S s) :
    P (inductDecide serial recipe s).2 := by
  have h := K.start hS
  unfold inductDecide
  split
  · exact h
  · split
    · exact h
    · split
      · exact h
      · split
        · exact h
        case h_2 i hempty =>
          split
          · exact h
          · dsimp only
            split
            · exact h
            · unfold inductRecord
              dsimp only
              split
              · exact K.quiet (view_raise _ _) (K.induct (emptySlot_some hempty) hS)
              · exact K.induct (emptySlot_some hempty) hS

omit K in
/-- The search for the oldest record answers a slot that holds one of which the condition holds. -/
theorem oldestSlot_some {s : State} {p : Record → Bool} {i : Fin 16} (h : oldestSlot s p = some i) :
    ∃ r, recordAt s i = some r ∧ p r = true := by
  have hfold (l : List (Fin 16)) (best : Option (Fin 16)) (hl : ∀ j ∈ l, slotHas s p j = true)
      (hbest : ∀ j, best = some j → slotHas s p j = true) {i : Fin 16}
      (hi : l.foldl (fun best i =>
        match best with
        | none => some i
        | some j => if olderSlot s i j then some i else some j) best = some i) : slotHas s p i = true := by
    induction l generalizing best with
    | nil => exact hbest i hi
    | cons k l ih =>
      refine ih _ (fun j hj => hl j (List.mem_cons_of_mem k hj)) (fun j hj => ?_) hi
      have hk := hl k List.mem_cons_self
      cases best with
      | none => cases hj; exact hk
      | some b =>
        dsimp only at hj
        split at hj
        · cases hj; exact hk
        · exact hbest j hj
  have hhas : slotHas s p i = true :=
    hfold _ none (fun j hj => (List.mem_filter.mp hj).2) (by simp) h
  unfold slotHas at hhas
  split at hhas
  case h_1 r hr => exact ⟨r, hr, hhas⟩
  case h_2 => cases hhas

theorem startTest_safe {i : Fin 16} {copy : Items} {r : Record} {s : State} (hmode : s.mode.mode = .ready)
    (hr : recordAt s i = some r) (hqueued : r.state = .queued) (h : P s) : P (startTest i copy s) :=
  supplyJudge_safe K (sequence_safe K (K.begin hmode hr hqueued h))

theorem startDecide_safe {s : State} (h : P s) : P (startDecide s).2 := by
  unfold startDecide
  split
  · exact h
  · split
    · exact h
    case isFalse hmode =>
      split
      · exact h
      case h_2 i holdest =>
        split
        · exact h
        · split
          · exact h
          case h_2 r hr =>
            obtain ⟨r', hr', hqueued⟩ := oldestSlot_some holdest
            obtain rfl : r' = r := Option.some.inj (hr'.symm.trans hr)
            unfold startRecipe
            split
            · exact h
            · split
              · exact h
              · dsimp only
                split
                · exact h
                · exact startTest_safe K (by simpa using hmode) hr (by simpa using hqueued) h

omit K in
/-- The marks of collection do not show in a record's view. -/
theorem view_collected (i : Fin 16) {r : Record} {s : State} (hr : recordAt s i = some r)
    {f : Record → Record} (hf : recordView (f r) = recordView r) : view (modifyRecord i f s) = view s := by
  refine view_modifyRecord i f s fun r' hr' => ?_
  obtain rfl : r = r' := Option.some.inj (hr.symm.trans hr')
  exact hf

theorem verdictDecide_safe {s : State} (hS : S s) : P (verdictDecide s).2 := by
  have h := K.start hS
  unfold verdictDecide
  split
  · exact h
  case h_2 i holdest =>
    split
    · exact h
    case h_2 r hr =>
      obtain ⟨r', hr', huncollected⟩ := oldestSlot_some holdest
      obtain rfl : r' = r := Option.some.inj (hr'.symm.trans hr)
      have hdecided : r'.state = .decided := by
        simp only [uncollected, Bool.and_eq_true, beq_iff_eq] at huncollected
        exact huncollected.1
      dsimp only
      split
      · exact K.remove hr hdecided hS
      · exact K.quiet (view_collected i hr rfl) h

theorem archiveDecide_safe (slot : Byte) {s : State} (hS : S s) : P (archiveDecide slot s).2 := by
  have h := K.start hS
  unfold archiveDecide
  split
  · exact h
  · split
    · exact h
    case h_2 i _ _ r hr =>
      split
      · exact h
      case isFalse hdecided =>
        dsimp only
        split
        · exact K.remove hr (by simpa using hdecided) hS
        · exact K.quiet (view_collected i hr rfl) h

theorem clearFaultsDecide_safe {s : State} (h : P s) : P (clearFaultsDecide s).2 := K.complete (K.clear h)

theorem faultReadAndClearDecide_safe {s : State} (h : P s) : P (faultReadAndClearDecide s).2 := K.complete (K.clear h)

theorem cellClearDecide_safe {s : State} (h : P s) : P (cellClearDecide s).2 := by
  have hentry : P (appendFault .cellClear 0 (leakUndecided (abandonCheck s))) := K.quiet (by simp) h
  unfold cellClearDecide
  dsimp only
  refine K.complete (K.quiet (view_withMode_same _ _ (by rfl) (by rfl)) ?_)
  split
  case isTrue hstop =>
    refine K.quiet (view_leakToVent _) (K.cellStop ?_ hentry)
    simpa [clearLatches] using hstop
  case isFalse => exact K.cellEnter hentry

theorem eventDecide_safe (p : Port) {s : State} (h : P s) : P (eventDecide p s).2 := by
  unfold eventDecide
  split
  · exact h
  · split
    · exact h
    · exact K.quiet (view_withEvents s _) h

theorem recipeWriteDecide_safe (recipe sect index field : Byte) (values : List Word16) {s : State} (h : P s) :
    P (recipeWriteDecide recipe sect index field values s).2 := by
  unfold recipeWriteDecide
  split
  · exact K.quiet (view_withStore s _ rfl) h
  · exact h

theorem recipeValidateDecide_safe (recipe : Byte) {s : State} (h : P s) : P (recipeValidateDecide recipe s).2 := by
  unfold recipeValidateDecide
  split
  · exact h
  · split
    · exact K.quiet ((view_raise _ _).trans (view_withStore s _ rfl)) h
    · exact K.quiet ((view_raise _ _).trans (view_withStore s _ rfl)) h

theorem zeroCaptureDecide_safe {s : State} (h : P s) : P (zeroCaptureDecide s).2 := by
  unfold zeroCaptureDecide
  repeat' split
  · exact h
  · exact h
  · exact K.quiet (view_startCheck _ s) h

theorem zeroCheckDecide_safe {s : State} (h : P s) : P (zeroCheckDecide s).2 := by
  unfold zeroCheckDecide
  repeat' split
  · exact h
  · exact h
  · exact h
  · exact K.quiet (view_startCheck _ s) h

theorem spotConvertDecide_safe (channel : Byte) {s : State} (h : P s) : P (spotConvertDecide channel s).2 := by
  unfold spotConvertDecide
  repeat' split
  · exact h
  · exact h
  · exact h
  · exact K.quiet (view_request _ _ s) h

theorem settingsWriteDecide_safe (x : SettingsRecord) {s : State} (h : S s) : P (settingsWriteDecide x s).2 := by
  unfold settingsWriteDecide
  repeat' split
  · exact K.start h
  · exact K.start h
  · exact K.settings h

theorem routeWriteDecide_safe (source route : Byte) {s : State} (h : P s) :
    P (routeWriteDecide source route s).2 := by
  unfold routeWriteDecide
  split
  · exact K.quiet (view_withEvents s _) h
  · exact h

theorem portRequest_safe {p : Port} {c : Command} {right : Bool} {act : State → Reply × State} {s : State}
    (hact : P (act s).2) (h : P s) : P (portRequest p c right act s) := by
  unfold portRequest
  split
  · exact K.quiet (view_closeFrame p s) h
  · split
    · exact K.quiet (view_reply p _ _) hact
    · exact K.quiet (view_refuseAccess p c s) h

theorem requestEffect_safe (i : Instr) {s : State} (hS : S s) : P (requestEffect i s) := by
  have h := K.start hS
  cases i with
  | readyRequest => exact portRequest_safe K (readyDecide_safe K h) h
  | idleRequest => exact portRequest_safe K (idleDecide_safe K h) h
  | pauseRequest => exact portRequest_safe K (pauseDecide_safe K h) h
  | resumeRequest => exact portRequest_safe K (resumeDecide_safe K h) h
  | induct => exact portRequest_safe K (inductDecide_safe K _ _ hS) h
  | start => exact portRequest_safe K (startDecide_safe K h) h
  | abort => exact portRequest_safe K (abortDecide_safe K _ h) h
  | verdict => exact portRequest_safe K (verdictDecide_safe K hS) h
  | archive => exact portRequest_safe K (archiveDecide_safe K _ hS) h
  | event => exact portRequest_safe K (eventDecide_safe K _ h) h
  | clearFaults => exact portRequest_safe K (clearFaultsDecide_safe K h) h
  | faultReadAndClear => exact portRequest_safe K (faultReadAndClearDecide_safe K h) h
  | cellClear => exact portRequest_safe K (cellClearDecide_safe K h) h
  | recipeWrite => exact portRequest_safe K (recipeWriteDecide_safe K _ _ _ _ _ h) h
  | recipeValidate => exact portRequest_safe K (recipeValidateDecide_safe K _ h) h
  | patchWrite => exact portRequest_safe K (K.patch h) h
  | zeroCapture => exact portRequest_safe K (zeroCaptureDecide_safe K h) h
  | zeroCheck => exact portRequest_safe K (zeroCheckDecide_safe K h) h
  | spotConvert => exact portRequest_safe K (spotConvertDecide_safe K _ h) h
  | settingsWrite => exact portRequest_safe K (settingsWriteDecide_safe K _ hS) h
  | routeWrite => exact portRequest_safe K (routeWriteDecide_safe K _ _ h) h
  | recordRead | status | faultRead | recipeRead | patchRead | integrityLogRead | settingsRead =>
    exact portRequest_safe K (by simpa using h) h
  | deviceReset | guardInputChange | supplyPauseTimerExpiry | settleTimerExpiry | cycleStart | demandRampEnd | cycleEnd
  | statusMessage | dwellTimerExpiry | standstillTimerExpiry | stepTimerExpiry | runTimeTick | filterTimerExpiry
  | oilRequestTimerExpiry | staleTimerExpiry | encoderPulse | stallTimerExpiry | sampleArrival | fillTimerExpiry
  | leakSettleTimerExpiry | measureTimerExpiry | leakRequestTimerExpiry | checkTimerExpiry | conversionCompletion
  | frameStart | frameEnd | unknownCommand => exact h

theorem dispatch_safe (p : Port) (code : Byte) (payload : List Byte) {s : State} (h : S s) :
    P (dispatch p code payload s) := by
  have hP := K.start h
  unfold dispatch
  split
  · exact K.quiet (view_reply p _ s) hP
  · split
    · exact K.quiet (view_refuseAccess p _ s) hP
    · split
      · exact K.quiet (view_reply p _ s) hP
      · exact requestEffect_safe K _ h

theorem frameEnd_safe (p : Port) (bits : List Bool) {s : State} (h : S s) : P (frameEnd p bits s) := by
  have hP := K.start h
  unfold frameEnd
  split
  · exact K.quiet (view_closeFrame p s) hP
  · split
    · exact K.quiet (view_closeFrame p s) hP
    · exact K.quiet (view_reply p _ s) hP
    · exact dispatch_safe K p _ _ h

theorem unknownCommand_safe (p : Port) (code : Byte) {s : State} (h : S s) : P (unknownCommand p code s) := by
  unfold unknownCommand
  split
  · exact K.quiet (view_closeFrame p s) (K.start h)
  · exact dispatch_safe K p _ _ h

/-! ## Guards, timers and the link's cycle -/

theorem followEnable_safe (g : GuardLevels) {s : State} (h : P s) :
    P (followEnable (driveEnable s) (s.withMode { s.mode with guards := g })) := by
  unfold followEnable
  split
  case isTrue hfell =>
    simp only [Bool.and_eq_true, Bool.not_eq_true'] at hfell
    exact K.fell hfell.1 hfell.2 h
  case isFalse hkept =>
    split
    · exact driveEnableRose_safe K fun t ht => K.rose h ht
    case isFalse hkept' =>
      refine K.quiet (view_withMode s _ rfl ?_) h
      revert hkept hkept'
      cases driveEnable s <;> simp

theorem guardInputChange_safe (i : GuardInput) (high : Bool) {s : State} (h : P s) :
    P (guardInputChange i high s) := by
  have hfollowed := followEnable_safe K (setGuard s.mode.guards i high) h
  unfold guardInputChange guardLatch
  dsimp only
  generalize followEnable (driveEnable s) (s.withMode { s.mode with guards := setGuard s.mode.guards i high }) = t
    at hfollowed ⊢
  have hraised : P (if guardChanged s.mode.guards (setGuard s.mode.guards i high)
      then raise (.guard (setGuard s.mode.guards i high)) t else t) := by
    split
    · exact K.quiet (view_raise _ t) hfollowed
    · exact hfollowed
  generalize (if guardChanged s.mode.guards (setGuard s.mode.guards i high)
      then raise (.guard (setGuard s.mode.guards i high)) t else t) = u at hraised ⊢
  split
  · split
    · exact latch_safe K _ _ hraised
    · exact hraised
  · exact hraised

theorem supplyPauseExpiry_safe {s : State} (h : P s) : P (supplyPauseExpiry s) := by
  have hstopped : P (s.withSup { s.sup with supplyPause := .stopped }) := K.quiet (view_withSup s _ rfl rfl) h
  have hentry : P (supplyEntry (s.withSup { s.sup with supplyPause := .stopped })) := by
    unfold supplyEntry
    split
    · exact K.quiet (view_appendFault _ _ _) hstopped
    · exact latch_safe K _ _ hstopped
  unfold supplyPauseExpiry
  split
  · dsimp only
    split
    · exact stopCause_safe K hentry
    · exact hentry
  · exact h

theorem settleExpiry_safe {s : State} (h : P s) : P (settleExpiry s) := by
  unfold settleExpiry
  split
  · exact latch_safe K _ _ h
  · exact h

theorem demandRampEnd_safe {s : State} (h : P s) : P (demandRampEnd s) := by
  unfold demandRampEnd
  split
  · exact reportRampEnd_safe K (K.quiet (view_withDemand s _ rfl rfl) h)
  · exact h

omit K in
theorem countMiss_held (l : DriveLine) : (countMiss l).held = l.held := by
  unfold countMiss; split <;> rfl

theorem cycleEnd_safe {s : State} (h : P s) : P (cycleEnd s) := by
  have hcounted : P (s.withLink
      { s.link with
        drives := ⟨countMiss s.link.drives.input, countMiss s.link.drives.left, countMiss s.link.drives.right⟩
        cycle := s.link.cycle + 1 }) := by
    refine K.quiet (view_withLink s _ fun d => ?_) h
    cases d <;> simp [PerDrive.get, countMiss_held, held]
  unfold cycleEnd reportLoss
  dsimp only
  split
  · exact latch_safe K _ _ hcounted
  · exact hcounted

omit K in
/-- The latching of a filtered monitor stops that monitor's filter timer, so that it may have been stopped before. -/
theorem view_filterLatched (m : FilteredMonitor) (v : Nat) (s : State) :
    view (stopFilterOf (monitorLatch m) (storeLatch (monitorLatch m) v (setFilter m .stopped s))) =
      view (stopFilterOf (monitorLatch m) (storeLatch (monitorLatch m) v s)) := by
  cases m <;> rfl

omit K in
@[simp] theorem latchSet_setFilter (m : FilteredMonitor) (t : Timer) (k : LatchKind) (s : State) :
    latchSet (setFilter m t s) k = latchSet s k := rfl

theorem filterExpiry_safe (m : FilteredMonitor) {s : State} (h : P s) : P (filterExpiry m s) := by
  unfold filterExpiry
  split
  · dsimp only
    cases hset : latchSet s (monitorLatch m) with
    | true => exact latch_safe K _ _ (K.filterOff hset h)
    | false =>
      have hlatched := K.quiet (view_filterLatched m ((monitorFails s m).getD 0) s) (K.latching hset h)
      rw [latch_of_clear _ (by simpa using hset)]
      split
      · exact stopCause_safe K (latched_safe K _ _ hlatched)
      · exact latched_safe K _ _ hlatched
  · exact h

theorem staleExpiry_safe {s : State} (h : P s) : P (staleExpiry s) := by
  unfold staleExpiry
  split
  · exact latch_safe K _ _ (K.quiet (view_withSup s _ rfl rfl) h)
  · exact h

/-! ## Every command and every step -/

/-- A command other than a device reset keeps the property, where an accepted status message does. -/
theorem exec_safe (hstatus : ∀ {d r first s}, S s → P (passAcceptance d first (acceptStatus d r s)))
    {i : Instr} (hreset : isReset i = false) {s t : State} (hS : S s) (hexec : exec i s = .next t) : P t := by
  have h := K.start hS
  have hrequest := requestEffect_safe K i hS
  cases i with
  | deviceReset => cases hreset
  | readyRequest | idleRequest | pauseRequest | resumeRequest | induct | start | abort | verdict | archive | recordRead
  | status | event | faultRead | clearFaults | faultReadAndClear | cellClear | recipeWrite | recipeRead
  | recipeValidate | patchWrite | patchRead | zeroCapture | zeroCheck | integrityLogRead | spotConvert | settingsWrite
  | settingsRead | routeWrite => cases hexec; exact hrequest
  | guardInputChange => cases hexec; exact guardInputChange_safe K _ _ h
  | supplyPauseTimerExpiry => cases hexec; exact supplyPauseExpiry_safe K h
  | settleTimerExpiry => cases hexec; exact settleExpiry_safe K h
  | demandRampEnd => cases hexec; exact demandRampEnd_safe K h
  | cycleEnd => cases hexec; exact cycleEnd_safe K h
  | statusMessage bytes first =>
    cases hexec
    unfold statusMessage
    split
    · exact hstatus hS
    · exact h
  | dwellTimerExpiry => cases hexec; exact dwellExpiry_safe K hS
  | standstillTimerExpiry => cases hexec; exact standstillExpiry_safe K h
  | stepTimerExpiry => cases hexec; exact stepExpiry_safe K h
  | filterTimerExpiry => cases hexec; exact filterExpiry_safe K _ h
  | staleTimerExpiry => cases hexec; exact staleExpiry_safe K h
  | conversionCompletion => cases hexec; exact conversionCompletion_safe K _ hS
  | frameStart => cases hexec; exact K.quiet (view_withPorts s _) h
  | frameEnd => cases hexec; exact frameEnd_safe K _ _ hS
  | unknownCommand => cases hexec; exact unknownCommand_safe K _ _ hS
  | cycleStart | runTimeTick | oilRequestTimerExpiry | encoderPulse | stallTimerExpiry | sampleArrival | fillTimerExpiry
  | leakSettleTimerExpiry | measureTimerExpiry | leakRequestTimerExpiry | checkTimerExpiry =>
    cases hexec
    exact K.quiet (by simp) h

/-- A step keeps the property, but for a device reset. -/
theorem step_safe (hstatus : ∀ {d r first s}, S s → P (passAcceptance d first (acceptStatus d r s)))
    {s t : State} (hS : S s) (hstep : step s = .next t) :
    (∃ c rest, s.pending = c :: rest ∧ isReset c = true) ∨ P t := by
  unfold step at hstep
  split at hstep
  case h_1 =>
    cases hstep
    exact Or.inr (K.quiet (view_passTime s) (K.start hS))
  case h_2 c rest hpending =>
    cases hreset : isReset c with
    | true => exact Or.inl ⟨c, rest, hpending, hreset⟩
    | false => exact Or.inr (exec_safe K hstatus hreset (K.startQuiet (view_withPending s rest) hS) hstep)

end

end Sys2Proof.Machine
end


section
/-! SUPPORT. Properties that no timer, latch, demand or test context shows in: the patches (spec/02, R30), the decided records (spec/10,
R150) and the entry to IDLE (spec/01, R13). For these the effects of `Safe` come down to a few. -/

namespace Sys2Proof.Machine

/-! ## The coarse view -/

/-- A view without DRIVE ENABLE, the demand, the test context, the latches and the filter timers. -/
def View.coarse (v : View) : View :=
  { v with
    enabled := false, direction := .fwd, limit := 0, ctx := none, latches := Vector.replicate 15 none
    running := fun _ => false }

@[simp] theorem coarse_withDemand (s : State) (x : Demand) : (view (s.withDemand x)).coarse = (view s).coarse := rfl
@[simp] theorem coarse_withCtx (s : State) (x : Option TestContext) : (view (s.withCtx x)).coarse = (view s).coarse := rfl
@[simp] theorem coarse_withSup (s : State) (x : Supervision) : (view (s.withSup x)).coarse = (view s).coarse := rfl

@[simp] theorem coarse_withMode_same (s : State) (x : ModeController) (h : x.mode = s.mode.mode) :
    (view (s.withMode x)).coarse = (view s).coarse := by
  simp only [view, View.coarse, State.withMode_mode, h]
  rfl

@[simp] theorem coarse_setFilter (m : FilteredMonitor) (t : Timer) (s : State) :
    (view (setFilter m t s)).coarse = (view s).coarse := rfl

@[simp] theorem coarse_judgeOne (s : State) (m : FilteredMonitor) : (view (judgeOne s m)).coarse = (view s).coarse := by
  unfold judgeOne; (repeat' split) <;> simp

@[simp] theorem coarse_judgeMonitors (s : State) : (view (judgeMonitors s)).coarse = (view s).coarse := by
  simp [judgeMonitors, allMonitors]

@[simp] theorem coarse_referenceChange (s : State) : (view (referenceChange s)).coarse = (view s).coarse := by
  simp [referenceChange]

@[simp] theorem coarse_monitorsStepStart (s : State) : (view (monitorsStepStart s)).coarse = (view s).coarse := by
  simp [monitorsStepStart]

@[simp] theorem coarse_storeLatch (k : LatchKind) (v : Nat) (s : State) :
    (view (storeLatch k v s)).coarse = (view s).coarse := rfl

@[simp] theorem coarse_stopFilterOf (k : LatchKind) (s : State) :
    (view (stopFilterOf k s)).coarse = (view s).coarse := by
  unfold stopFilterOf; split <;> simp

@[simp] theorem coarse_clearLatches (s : State) : (view (clearLatches s)).coarse = (view s).coarse := by
  simp [clearLatches]

@[simp] theorem coarse_driveEnableFell (s : State) : (view (driveEnableFell s)).coarse = (view s).coarse := by
  simp [driveEnableFell]

@[simp] theorem coarse_endContext (s : State) : (view (endContext s)).coarse = (view s).coarse := by
  unfold endContext; split <;> simp

@[simp] theorem coarse_reversalCheck (s : State) : (view (reversalCheck s)).coarse = (view s).coarse := by
  unfold reversalCheck; (repeat' split) <;> simp

@[simp] theorem coarse_reversalWait (c : TestContext) (s : State) :
    (view (reversalWait c s)).coarse = (view s).coarse := by
  simp [reversalWait]

@[simp] theorem coarse_enterReverse (c : TestContext) (s : State) :
    (view (enterReverse c s)).coarse = (view s).coarse := by
  unfold enterReverse; dsimp only; (repeat' split) <;> simp

@[simp] theorem coarse_toFinishStage (c : TestContext) (x : FinishStage) (hold : Bool) (s : State) :
    (view (toFinishStage c x hold s)).coarse = (view s).coarse := rfl

@[simp] theorem coarse_enterFinish (c : TestContext) (s : State) :
    (view (enterFinish c s)).coarse = (view s).coarse := by
  simp [enterFinish]

@[simp] theorem coarse_startStep (k : Nat) (c : TestContext) (s : State) :
    (view (startStep k c s).1).coarse = (view s).coarse := by
  unfold startStep; dsimp only; (repeat' split) <;> simp

@[simp] theorem coarse_enterRamp (c : TestContext) (s : State) :
    (view (enterRamp c s).1).coarse = (view s).coarse := by
  simp [enterRamp]

@[simp] theorem coarse_enterHold (c : TestContext) (s : State) :
    (view (enterHold c s).1).coarse = (view s).coarse := by
  unfold enterHold; split <;> simp

@[simp] theorem coarse_completeStep (c : TestContext) (s : State) :
    (view (completeStep c s).1).coarse = (view s).coarse := by
  unfold completeStep; dsimp only; (repeat' split) <;> simp

@[simp] theorem coarse_seqAct (a : SeqAction) (s : State) : (view (seqAct a s).1).coarse = (view s).coarse := by
  unfold seqAct
  split
  · rfl
  · cases a <;> simp

@[simp] theorem coarse_pauseRunIn (s : State) : (view (pauseRunIn s)).coarse = (view s).coarse := by simp

/-- The state in which a mode change writes the mode: the block, the supply pause and the check that the old mode leaves are over. -/
def modeLeft (m : Mode) (s : State) : State :=
  let t := if s.mode.mode = .run ∧ m ≠ .run then abandonBlock s else s
  let t := if s.mode.mode = .pause ∧ m ≠ .pause then t.withSup { t.sup with supplyPause := .stopped } else t
  abandonCheckOf (fun k => !checkSurvives m k) t

@[simp] theorem view_modeLeft (m : Mode) (s : State) : view (modeLeft m s) = view s := by
  have hblock : view (if s.mode.mode = .run ∧ m ≠ .run then abandonBlock s else s) = view s := by
    split <;> simp
  unfold modeLeft
  dsimp only
  generalize (if s.mode.mode = .run ∧ m ≠ .run then abandonBlock s else s) = t at hblock ⊢
  rw [view_abandonCheckOf]
  split
  · exact (view_withSup t _ rfl rfl).trans hblock
  · exact hblock

/-- A mode change writes the mode into the state that the old mode has left. -/
def modeWritten (m : Mode) (s : State) : State :=
  let t := modeLeft m s
  t.withMode
    { t.mode with
      mode := m
      pauseKind := if m = .pause then t.mode.pauseKind else .none
      settleTimer := if m = .settle then t.mode.settleTimer else .stopped }

theorem setMode_eq (m : Mode) (s : State) :
    setMode m s =
      if driveEnable s && !driveEnable (modeWritten m s) then driveEnableFell (modeWritten m s) else modeWritten m s :=
  rfl

/-- A mode change writes the mode. -/
theorem coarse_setMode (m : Mode) (s : State) :
    (view (setMode m s)).coarse = { (view s).coarse with mode := m } := by
  have hwritten : (view (modeWritten m s)).coarse = { (view s).coarse with mode := m } := by
    rw [← view_modeLeft m s]
    rfl
  rw [setMode_eq]
  split
  · exact (coarse_driveEnableFell _).trans hwritten
  · exact hwritten

theorem setMode_mode (m : Mode) (s : State) : (setMode m s).mode.mode = m := congrArg View.mode (coarse_setMode m s)

/-- What a PAUSE does besides the mode change. -/
theorem coarse_enterPause (k : PauseKind) (s : State) :
    (view (enterPause k s)).coarse = (view (setMode .pause s)).coarse := by
  simp only [enterPause, coarse_referenceChange, view_leakPause, view_pauseRunIn]
  split
  · exact (coarse_withSup _ _).trans (coarse_withMode_same _ _ rfl)
  · exact coarse_withMode_same _ _ rfl

/-! ## Coarse properties -/

/-- What a property of the coarse view must survive. -/
structure Coarse (S P : State → Prop) : Prop where
  start : ∀ {s}, S s → P s
  startQuiet : ∀ {s t}, (view t).coarse = (view s).coarse → S s → S t
  quiet : ∀ {s t}, (view t).coarse = (view s).coarse → P s → P t
  mode : ∀ {m s t}, (m = .idle → Settled s) → (view t).coarse = { (view s).coarse with mode := m } → P s → P t
  ended : ∀ {c i r s}, recordAt s i = some r → r.state = .onTest → P s → P (modifyRecord i (decided c) s)
  begin : ∀ {i copy r s}, recordAt s i = some r → r.state = .queued → P s → P (modifyRecord i (startRecord copy) s)
  induct : ∀ {i serial recipe retest seq next s}, recordAt s i = none → S s →
    P (s.withQueue ⟨s.queue.slots.set i (some (newRecord serial recipe retest seq)), next⟩)
  remove : ∀ {i r s}, recordAt s i = some r → r.state = .decided → S s → P (removeRecord i s)
  patch : ∀ {entry enabled recipe sect index field value s}, P s →
    P (patchWriteDecide entry enabled recipe sect index field value s).2
  accept : ∀ {d r s}, S s → P (acceptStatus d r s)
  pressure : ∀ {x s}, S s → S (s.withConv x)
  reference : ∀ {v s}, S s → P (s.withZero { s.zero with reference := v, refValid := true })
  settings : ∀ {x s}, S s → P (writeSettings x s)

/-- A target that is complete is at rest and vented (R13). -/
theorem settled_of_targetComplete {s : State} (h : targetComplete s = true) : Settled s := by
  unfold targetComplete at h
  split at h
  · simpa [Settled] using h
  · simp only [Bool.and_eq_true] at h
    obtain ⟨⟨-, hrest⟩, hvented⟩ := h
    exact ⟨hrest, hvented⟩
  · cases h

section
variable {S P : State → Prop} (K : Coarse S P)
include K

theorem endTest_coarse {s : State} (h : P s) : P (endTest s) := by
  have hended {t : State} (ht : P t) : P (endContext t) := K.quiet (coarse_endContext t) ht
  unfold endTest
  split
  case h_1 i hi =>
    obtain ⟨r, hr, hstate⟩ := onTestSlot_some hi
    rw [hr]
    refine hended (K.quiet ?_ (K.ended (c := s.ctx) hr hstate h))
    have hcount (z : ZeroCheck) : (countUnchecked r z).reference = z.reference ∧
        (countUnchecked r z).refValid = z.refValid ∧ (countUnchecked r z).ventOffset = z.ventOffset := by
      unfold countUnchecked; split <;> simp
    rw [view_abandonCheckOf, view_withZero _ _ (hcount _).1 (hcount _).2.1 (hcount _).2.2, view_raise]
  case h_2 => exact hended h

theorem setMode_coarse {m : Mode} {s : State} (hm : m ≠ .idle) (h : P s) : P (setMode m s) :=
  K.mode (fun e => absurd e hm) (coarse_setMode m s) h

theorem enterStopped_coarse {m : Mode} {s : State} (hm : m ≠ .idle) (h : P s) : P (enterStopped m s) := by
  have hend : P (endTest (dropTarget (leakToVent s))) := endTest_coarse K (K.quiet (by simp) h)
  refine K.quiet ?_ (setMode_coarse K hm hend)
  simp [enterStopped]

theorem completionCheck_coarse {s : State} (h : P s) : P (completionCheck s) := by
  unfold completionCheck
  split
  case h_1 x _ =>
    split
    case isTrue hcomplete =>
      refine K.mode (m := x.mode) (fun _ => settled_of_targetComplete hcomplete) ?_ h
      simp [coarse_setMode]
    case isFalse => exact h
  case h_2 => exact h

theorem enterSettle_coarse (x : Target) {s : State} (h : P s) : P (enterSettle x s) := by
  have hmode : P (setMode .settle (leakToVent s)) := setMode_coarse K (by decide) (K.quiet (by simp) h)
  exact completionCheck_coarse K (K.quiet (by simp) hmode)

/-- A coarse property survives every effect. -/
theorem Coarse.safe : Safe S P P where
  start := K.start
  startQuiet hview := K.startQuiet (congrArg View.coarse hview)
  quiet hview := K.quiet (congrArg View.coarse hview)
  judge := K.quiet (coarse_judgeMonitors _)
  latching _ := K.quiet (by simp)
  filterOff _ := K.quiet (coarse_setFilter _ _ _)
  stopped hm := enterStopped_coarse K (by rcases hm with rfl | rfl <;> decide)
  complete := completionCheck_coarse K
  decision h := K.quiet (coarse_judgeMonitors _) (setMode_coarse K (by decide) (endTest_coarse K h))
  settle h hview := enterSettle_coarse K _ (K.quiet (congrArg View.coarse hview) (endTest_coarse K h))
  settleReady _ := enterSettle_coarse K _
  idle _ hsettled h := K.quiet (coarse_judgeMonitors _) (K.mode (fun _ => hsettled) (coarse_setMode _ _) h)
  ready _ h hview :=
    K.quiet ((coarse_judgeMonitors _).trans (congrArg View.coarse hview)) (setMode_coarse K (by decide) h)
  pause _ h := K.quiet (coarse_enterPause _ _) (setMode_coarse K (m := .pause) (by decide) h)
  unpause _ h := K.quiet (coarse_referenceChange _) (setMode_coarse K (by decide) h)
  clear := K.quiet (coarse_clearLatches _)
  cellStop _ h := K.quiet (coarse_clearLatches _) (endTest_coarse K h)
  cellEnter h := enterStopped_coarse K (by decide) (K.quiet (coarse_clearLatches _) (endTest_coarse K h))
  fell _ _ := K.quiet ((coarse_driveEnableFell _).trans (coarse_withMode_same _ _ rfl))
  rose h hview :=
    K.quiet ((coarse_judgeMonitors _).trans ((congrArg View.coarse hview).trans (coarse_withMode_same _ _ rfl))) h
  finishStage _ := K.quiet (coarse_toFinishStage _ _ _ _)
  reversal := K.quiet (coarse_reversalCheck _)
  reversalWait _ _ := K.quiet (coarse_reversalWait _ _)
  ofSequence h := h
  toSequence _ _ h := h
  act := K.quiet (coarse_seqAct _ _)
  actNext h _ := K.quiet (coarse_seqAct _ _) h
  ramp _ _ _ _ h hview :=
    K.quiet ((coarse_seqAct _ _).trans ((congrArg View.coarse hview).trans (coarse_withCtx _ _))) h
  turn {c s} _ _ h := by
    have hturned : (view (turned c s)).coarse = (view s).coarse := rfl
    exact ⟨K.quiet ((coarse_seqAct _ _).trans hturned) (K.start h),
      K.quiet ((coarse_referenceChange _).trans hturned) (K.start h)⟩
  begin {i copy r s} _ hr hqueued h := by
    refine K.quiet (coarse_judgeMonitors _) (setMode_coarse K (by decide) (K.quiet ?_ (K.begin (copy := copy) hr hqueued h)))
    simp
  induct := K.induct
  remove := K.remove
  patch := K.patch
  pressure := K.pressure
  reference := K.reference
  settings := K.settings

/-- A step keeps a coarse property, but for a device reset. -/
theorem step_coarse {s t : State} (hS : S s) (hstep : step s = .next t) :
    (∃ c rest, s.pending = c :: rest ∧ isReset c = true) ∨ P t :=
  step_safe K.safe (fun h => passAcceptance_safe K.safe _ _ (K.accept h)) hS hstep

end

/-- A command that resets the part, at the front of the queue, leaves the part as a device reset does. -/
theorem step_of_reset {s t : State} (hstep : step s = .next t)
    (h : ∃ c rest, s.pending = c :: rest ∧ isReset c = true) : ∃ g, view t = view (State.resetWith g) := by
  obtain ⟨c, rest, hpending, hreset⟩ := h
  cases c with
  | deviceReset g =>
    simp only [step, hpending] at hstep
    cases hstep
    exact ⟨g, rfl⟩
  | _ => cases hreset

end Sys2Proof.Machine
end


section
/-! SUPPORT. The three coarse invariants: distinct patches (R30), decided records (R150) and the entry to IDLE (R13). -/

namespace Sys2Proof.Machine

/-! ## The view's parts that the coarse properties read -/

theorem mode_of_coarse {s t : State} (h : (view t).coarse = (view s).coarse) : t.mode.mode = s.mode.mode :=
  congrArg View.mode h

theorem patches_of_coarse {s t : State} (h : (view t).coarse = (view s).coarse) : t.store.patches = s.store.patches :=
  congrArg View.patches h

theorem held_of_coarse {s t : State} (h : (view t).coarse = (view s).coarse) (d : DriveId) : held t d = held s d :=
  congrFun (congrArg View.held h) d

theorem records_of_coarse {s t : State} (h : (view t).coarse = (view s).coarse) :
    (view t).records = (view s).records :=
  (congrArg View.records h :)

/-- What R13's condition reads. -/
theorem settled_congr {s t : State} (hheld : ∀ d, held t d = held s d) (hlast : t.conv.lastP = s.conv.lastP)
    (href : t.zero.reference = s.zero.reference) (hvalid : t.zero.refValid = s.zero.refValid)
    (hoffset : t.zero.ventOffset = s.zero.ventOffset) : Settled t ↔ Settled s := by
  have hrest : atRest t = atRest s := by simp only [atRest, driveAtRest, hheld]
  have hvented : vented t = vented s := by unfold vented ventThreshold; rw [hlast, href, hvalid, hoffset]
  rw [Settled, Settled, hrest, hvented]

theorem settled_of_coarse {s t : State} (h : (view t).coarse = (view s).coarse) : Settled t ↔ Settled s :=
  settled_congr (held_of_coarse h) (congrArg View.lastP h) (congrArg View.reference h) (congrArg View.refValid h)
    (congrArg View.ventOffset h)

/-! ## Distinct patches -/

theorem patchesDistinct_congr {s t : State} (h : t.store.patches = s.store.patches) :
    PatchesDistinct s → PatchesDistinct t := by
  unfold PatchesDistinct
  rw [h]
  exact id

/-- PATCH WRITE's checks refuse a second enabled entry for an item (R31). -/
theorem patchWriteDecide_distinct {entry enabled recipe sect index field : Byte} {value : Word16} {s : State}
    (h : PatchesDistinct s) :
    PatchesDistinct (patchWriteDecide entry enabled recipe sect index field value s).2 := by
  unfold patchWriteDecide
  dsimp only
  split
  case isTrue => exact h
  case isFalse hgood =>
    split
    case isTrue => exact h
    case isFalse hclash =>
      have hentry : entry.toNat < 8 := by
        simp only [Bool.not_eq_true', Bool.not_eq_false] at hgood
        simp only [patchRangeGood, Bool.and_eq_true, decide_eq_true_eq] at hgood
        exact hgood.1.1
      have hfree (m : Fin 8) (hm : entry.toNat ≠ m.val) (henabled : enabled.toNat = 1)
          (hen : (s.store.patches[m]).enabled = true) (hrec : (s.store.patches[m]).recipe = recipe.toNat) :
          (s.store.patches[m]).target ≠ target sect index field := by
        intro htarget
        refine hclash ⟨henabled, ?_⟩
        refine List.any_eq_true.mpr ⟨m, mem_allEntries m, ?_⟩
        have hne : m.val ≠ entry.toNat := fun e => hm e.symm
        simp only [Fin.getElem_fin] at hen hrec htarget
        simp [patchApplies, hne, hen, hrec, htarget]
      intro i j hi hj hrecipe htarget
      simp only [State.withStore_store, Fin.getElem_fin, Vector.getElem_setIfInBounds] at hi hj hrecipe htarget
      by_cases hei : entry.toNat = i.val
      · by_cases hej : entry.toNat = j.val
        · exact Fin.ext (hei.symm.trans hej)
        · rw [if_pos hei] at hi hrecipe htarget
          rw [if_neg hej] at hj hrecipe htarget
          exact absurd htarget.symm (hfree j hej (by simpa using hi) hj hrecipe.symm)
      · rw [if_neg hei] at hi hrecipe htarget
        by_cases hej : entry.toNat = j.val
        · rw [if_pos hej] at hj hrecipe htarget
          exact absurd htarget (hfree i hei (by simpa using hj) hi hrecipe)
        · rw [if_neg hej] at hj hrecipe htarget
          exact h i j hi hj hrecipe htarget

/-- No effect but PATCH WRITE writes a patch. -/
theorem patchesDistinct_coarse : Coarse PatchesDistinct PatchesDistinct where
  start h := h
  startQuiet hview := patchesDistinct_congr (patches_of_coarse hview)
  quiet hview := patchesDistinct_congr (patches_of_coarse hview)
  mode _ hview := patchesDistinct_congr (congrArg View.patches hview)
  ended _ _ := patchesDistinct_congr (by simp)
  begin _ _ := patchesDistinct_congr (by simp)
  induct _ := patchesDistinct_congr (by simp)
  remove _ _ := patchesDistinct_congr (by simp)
  patch := patchWriteDecide_distinct
  accept := patchesDistinct_congr (by simp [acceptStatus])
  pressure := patchesDistinct_congr (by simp)
  reference := patchesDistinct_congr (by simp)
  settings := patchesDistinct_congr (by simp [writeSettings])

theorem patchesDistinct_resetWith (g : GuardLevels) : PatchesDistinct (State.resetWith g) := by
  intro i j hi
  simp [State.resetWith, resetStore] at hi

/-! ## Decided records -/

/-- The decided records of `q` stand as they are, or their slots are empty. -/
def DecidedKept (q : Fin 16 → Option RecordView) (s : State) : Prop :=
  ∀ i w, q i = some w → w.state = .decided → (view s).records i = none ∨ (view s).records i = some w

theorem view_records (s : State) (i : Fin 16) : (view s).records i = (recordAt s i).map recordView := rfl

theorem decidedKept_congr {q : Fin 16 → Option RecordView} {s t : State} (h : (view t).records = (view s).records) :
    DecidedKept q s → DecidedKept q t := by
  unfold DecidedKept
  rw [h]
  exact id

/-- A record that is not decided may change. -/
theorem decidedKept_modifyRecord {q : Fin 16 → Option RecordView} {i : Fin 16} {f : Record → Record} {r : Record}
    {s : State} (hr : recordAt s i = some r) (hstate : r.state ≠ .decided) (h : DecidedKept q s) :
    DecidedKept q (modifyRecord i f s) := by
  intro j w hq hw
  have hold := h j w hq hw
  simp only [view_records, recordAt_modifyRecord] at hold ⊢
  split
  case isTrue hji =>
    subst hji
    simp only [hr, Option.map_some, reduceCtorEq, Option.some.injEq, false_or] at hold
    subst hold
    exact absurd hw hstate
  case isFalse => exact hold

/-- A slot's new content leaves the other slots. -/
theorem recordAt_withSlot (i j : Fin 16) (x : Option Record) (next : Word16) (s : State) :
    recordAt (s.withQueue ⟨s.queue.slots.set i x, next⟩) j = if j = i then x else recordAt s j := by
  by_cases h : j = i
  · subst h; simp [recordAt]
  · have : i.val ≠ j.val := fun e => h (Fin.ext e.symm)
    simp [recordAt, h, this]

theorem decidedKept_induct {q : Fin 16 → Option RecordView} {i : Fin 16} {r : Record} {next : Word16} {s : State}
    (hempty : recordAt s i = none) (hq : (view s).records = q) :
    DecidedKept q (s.withQueue ⟨s.queue.slots.set i (some r), next⟩) := by
  intro j w hj _
  subst hq
  have hne : j ≠ i := by
    rintro rfl
    simp [view_records, hempty] at hj
  right
  rw [← hj, view_records, view_records, recordAt_withSlot, if_neg hne]

theorem decidedKept_removeRecord {q : Fin 16 → Option RecordView} {i : Fin 16} {s : State}
    (hq : (view s).records = q) : DecidedKept q (removeRecord i s) := by
  intro j w hj _
  subst hq
  simp only [view_records, recordAt_removeRecord] at hj ⊢
  split
  · exact Or.inl rfl
  · exact Or.inr hj

theorem decidedKept_coarse (q : Fin 16 → Option RecordView) :
    Coarse (fun s => (view s).records = q) (DecidedKept q) where
  start h i w hw _ := Or.inr (h ▸ hw)
  startQuiet hview h := (records_of_coarse hview).trans h
  quiet hview := decidedKept_congr (records_of_coarse hview)
  mode _ hview := decidedKept_congr (congrArg View.records hview :)
  ended hr hstate := decidedKept_modifyRecord hr (by simp [hstate])
  begin hr hstate := decidedKept_modifyRecord hr (by simp [hstate])
  induct hempty := decidedKept_induct hempty
  remove _ _ := decidedKept_removeRecord
  patch {entry enabled recipe sect index field value s} h := by
    refine decidedKept_congr ?_ h
    unfold patchWriteDecide
    dsimp only
    (repeat' split) <;> rfl
  accept h i w hw _ := Or.inr (h ▸ hw)
  pressure h := h
  reference h i w hw _ := Or.inr (h ▸ hw)
  settings h i w hw _ := Or.inr (h ▸ hw)

/-- A record of a decided record's view differs from it in its released, archived and zero status fields alone. -/
theorem recordView_eq_decided {r r' : Record} (hr : r.state = .decided) (h : recordView r' = recordView r) :
    r' = { r with released := r'.released, archived := r'.archived, zero := r'.zero } := by
  have hstate : r'.state = .decided := (congrArg RecordView.state h).trans hr
  have hkept := congrArg RecordView.kept h
  simp only [recordView, hstate, hr, if_true, Option.some.injEq] at hkept
  cases r
  cases r'
  simp_all

/-! ## The entry to IDLE -/

/-- The mode is IDLE at rest and vented alone. -/
def IdleSettled (s : State) : Prop := s.mode.mode = .idle → Settled s

theorem idleSettled_of_ne {s : State} (h : s.mode.mode ≠ .idle) : IdleSettled s := fun e => absurd e h

theorem idleSettled_congr {s t : State} (hmode : t.mode.mode = s.mode.mode) (hsettled : Settled t ↔ Settled s) :
    IdleSettled s → IdleSettled t :=
  fun h e => hsettled.mpr (h (hmode ▸ e))

theorem idleSettled_coarse : Coarse (fun s => s.mode.mode ≠ .idle) IdleSettled where
  start := idleSettled_of_ne
  startQuiet hview h := by rwa [mode_of_coarse hview]
  quiet hview := idleSettled_congr (mode_of_coarse hview) (settled_of_coarse hview)
  mode {m s t} hm hview _ e := by
    have hmode : t.mode.mode = m := congrArg View.mode hview
    have hkept : Settled t ↔ Settled s :=
      settled_congr (congrFun (congrArg View.held hview)) (congrArg View.lastP hview) (congrArg View.reference hview)
        (congrArg View.refValid hview) (congrArg View.ventOffset hview)
    exact hkept.mpr (hm (hmode ▸ e))
  ended {c i r s} _ _ :=
    idleSettled_congr (by simp) (settled_congr (fun d => by simp [held]) (by simp) (by simp) (by simp) (by simp))
  begin _ _ :=
    idleSettled_congr (by simp) (settled_congr (fun d => by simp [held]) (by simp) (by simp) (by simp) (by simp))
  induct _ h := idleSettled_of_ne h
  remove _ _ h := idleSettled_of_ne h
  patch {entry enabled recipe sect index field value s} h := by
    unfold patchWriteDecide
    dsimp only
    (repeat' split) <;> exact h
  accept h := idleSettled_of_ne h
  pressure h := h
  reference h := idleSettled_of_ne h
  settings h := idleSettled_of_ne h

end Sys2Proof.Machine
end

section
/-! PROOF. The settled statements on distinct patches, decided records and the entry to IDLE. -/

open Sys2Proof Sys2Proof.Machine

/-- Settles O55: PATCH WRITE alone writes a patch, and it refuses a clash. -/
theorem patchesStayDistinct : Obligations.PatchesStayDistinct := by
  intro s t h hstep
  rcases step_coarse patchesDistinct_coarse h hstep with hreset | ht
  · obtain ⟨g, hview⟩ := step_of_reset hstep hreset
    exact patchesDistinct_congr (congrArg View.patches hview) (patchesDistinct_resetWith g)
  · exact ht

/-- Settles O59: a mode change to IDLE is a completed target or an IDLE request at rest. -/
theorem idleOnlyAtRest : Obligations.IdleOnlyAtRest := by
  intro s t hstep hmode hidle
  exact (step_coarse idleSettled_coarse hmode hstep).imp_right fun h => h hidle

/-- Settles O60: the posts go to the record ON TEST, and the zero check's marks and the collection leave a record's view. -/
theorem decidedStays : Obligations.DecidedStays := by
  intro s t i r hstep hr hstate
  have hq : (view s).records i = some (recordView r) := by rw [view_records, hr]; rfl
  have hkept : DecidedKept (view s).records t := by
    rcases step_coarse (decidedKept_coarse (view s).records) rfl hstep with hreset | ht
    · obtain ⟨g, hview⟩ := step_of_reset hstep hreset
      intro j w _ _
      left
      rw [hview]
      simp [view_records, State.resetWith, recordAt, resetQueue]
    · exact ht
  rcases hkept i _ hq hstate with hnone | hsome
  · left
    simpa [view_records] using hnone
  · right
    rw [view_records] at hsome
    obtain ⟨r', hr', hview⟩ := Option.map_eq_some_iff.mp hsome
    exact ⟨r'.released, r'.archived, r'.zero, hr'.trans (congrArg some (recordView_eq_decided hstate hview))⟩

end


section
/-! PROOF. One record is ON TEST exactly while a test context exists (R40, R54, R148, R152). -/

namespace Sys2Proof.Machine

/-! ## The test in a state -/

/-- The two states agree in the mode, in whether a test context exists, and in the records ON TEST. -/
def SameTest (s t : State) : Prop :=
  t.mode.mode = s.mode.mode ∧ t.ctx.isSome = s.ctx.isSome ∧ ∀ i, OnTest t i ↔ OnTest s i

/-- No test is in progress. -/
def NoTest (s : State) : Prop := (∀ i, ¬OnTest s i) ∧ s.ctx = none

theorem onTest_iff_view (s : State) (i : Fin 16) :
    OnTest s i ↔ ∃ w, (view s).records i = some w ∧ w.state = .onTest := by
  simp [OnTest, view_records, recordView]

theorem onTest_congr {s t : State} (h : t.queue = s.queue) (i : Fin 16) : OnTest t i ↔ OnTest s i := by
  rw [OnTest, OnTest, recordAt_congr h]

theorem onTest_modifyRecord (i j : Fin 16) (f : Record → Record) (s : State) :
    OnTest (modifyRecord i f s) j ↔
      if j = i then ∃ r, recordAt s j = some r ∧ (f r).state = .onTest else OnTest s j := by
  unfold OnTest
  rw [recordAt_modifyRecord]
  split <;> simp

theorem sameTest_of_coarse {s t : State} (hview : (view t).coarse = (view s).coarse)
    (hctx : t.ctx.isSome = s.ctx.isSome) : SameTest s t :=
  ⟨mode_of_coarse hview, hctx, fun i => by rw [onTest_iff_view, onTest_iff_view, records_of_coarse hview]⟩

theorem sameTest_of_view {s t : State} (hview : view t = view s) : SameTest s t :=
  sameTest_of_coarse (congrArg View.coarse hview) (by
    have hctx : t.ctx.map contextView = s.ctx.map contextView := congrArg View.ctx hview
    simpa using congrArg Option.isSome hctx)

theorem oneTest_congr {s t : State} (h : SameTest s t) : OneTest s → OneTest t := by
  obtain ⟨hmode, hctx, honTest⟩ := h
  simp only [OneTest, hmode, hctx, honTest]
  exact id

theorem noTest_congr {s t : State} (h : SameTest s t) (hs : NoTest s) : NoTest t := by
  obtain ⟨-, hctx, honTest⟩ := h
  obtain ⟨hnone, hs⟩ := hs
  exact ⟨fun i hi => hnone i ((honTest i).mp hi), by simpa [hs] using hctx⟩

/-! ## Outside RUN and PAUSE no test is in progress -/

theorem noTest_of_mode {s : State} (h : OneTest s) (hmode : ¬(s.mode.mode = .run ∨ s.mode.mode = .pause)) : NoTest s := by
  obtain ⟨-, hctx, hmodes⟩ := h
  have hnone : ¬s.ctx.isSome = true := fun e => hmode (hmodes.mp e)
  exact ⟨fun i hi => hnone (hctx.mp ⟨i, hi⟩), by simpa using hnone⟩

theorem oneTest_of_noTest {s : State} (h : NoTest s) (hmode : ¬(s.mode.mode = .run ∨ s.mode.mode = .pause)) :
    OneTest s := by
  obtain ⟨hnone, hctx⟩ := h
  refine ⟨fun i _ hi => absurd hi (hnone i), ?_, ?_⟩
  · simp [hctx, hnone]
  · simpa [hctx] using hmode

/-- A mode change keeps the test. -/
theorem noTest_setMode (m : Mode) {s : State} (h : NoTest s) : NoTest (setMode m s) := by
  obtain ⟨hnone, hctx⟩ := h
  exact ⟨fun i hi => hnone i ((onTest_congr (by simp) i).mp hi), by simpa using hctx⟩

/-- Between RUN and PAUSE the test goes on. -/
theorem oneTest_setMode {m : Mode} {s : State} (hm : m = .run ∨ m = .pause)
    (hmode : s.mode.mode = .run ∨ s.mode.mode = .pause) (h : OneTest s) : OneTest (setMode m s) := by
  obtain ⟨hone, hctx, hmodes⟩ := h
  have honTest (i : Fin 16) : OnTest (setMode m s) i ↔ OnTest s i := onTest_congr (by simp) i
  have hsome : (setMode m s).ctx.isSome = s.ctx.isSome := by simp
  refine ⟨fun i j hi hj => hone i j ((honTest i).mp hi) ((honTest j).mp hj), ?_, ?_⟩
  · simpa only [honTest, hsome] using hctx
  · rw [hsome, setMode_mode]
    exact ⟨fun _ => hm, fun _ => hmodes.mpr hmode⟩

/-- The end of the test context ends it, whether there is one or not. -/
theorem endContext_ctx (s : State) : (endContext s).ctx = none := by
  unfold endContext; split <;> simp_all

theorem endTest_ctx (s : State) : (endTest s).ctx = none := by
  unfold endTest; (repeat' split) <;> exact endContext_ctx _

theorem noTest_endTest {s : State} (hone : ∀ i j, OnTest s i → OnTest s j → i = j) : NoTest (endTest s) := by
  refine ⟨fun j hj => ?_, endTest_ctx s⟩
  unfold endTest at hj
  split at hj
  case h_1 i hi =>
    obtain ⟨r, hr, hstate⟩ := onTestSlot_some hi
    rw [hr] at hj
    have hdecided : OnTest (modifyRecord i (decided s.ctx) s) j := (onTest_congr (by simp) j).mp hj
    rw [onTest_modifyRecord] at hdecided
    split at hdecided
    · obtain ⟨_, -, hdone⟩ := hdecided
      cases hdone
    case isFalse hne => exact hne (hone j i hdecided ⟨r, hr, hstate⟩)
  case h_2 hnone =>
    obtain ⟨r, hr, hstate⟩ := (onTest_congr (s := s) (by simp) j).mp hj
    exact onTestSlot_none.mp hnone j r hr hstate

theorem targetComplete_mode {s : State} (h : targetComplete s = true) : s.mode.mode = .settle ∨ s.mode.mode = .stop := by
  unfold targetComplete at h
  split at h
  · exact Or.inl ‹_›
  · exact Or.inr ‹_›
  · cases h

theorem judgeMonitors_mode (s : State) : (judgeMonitors s).mode = s.mode := by simp

theorem noTest_judgeMonitors {s : State} (h : NoTest s) : NoTest (judgeMonitors s) :=
  noTest_congr (sameTest_of_coarse (by simp) (by simp)) h

/-- A completed target leaves no test, for SETTLE and STOP have none. -/
theorem noTest_completionCheck {s : State} (h : NoTest s) : NoTest (completionCheck s) := by
  obtain ⟨hnone, hctx⟩ := h
  exact ⟨fun i hi => hnone i ((onTest_congr (by simp) i).mp hi), by simpa using hctx⟩

theorem Target.mode_ne (x : Target) : ¬(x.mode = .run ∨ x.mode = .pause) := by cases x <;> decide

/-- After a completion check the mode is as before or the target's. -/
theorem completionCheck_mode (s : State) :
    (completionCheck s).mode.mode = s.mode.mode ∨ ∃ x : Target, (completionCheck s).mode.mode = x.mode := by
  unfold completionCheck
  split
  case h_1 x _ =>
    split
    · exact Or.inr ⟨x, by simp [setMode_mode]⟩
    · exact Or.inl rfl
  case h_2 => exact Or.inl rfl

theorem oneTest_completionCheck_of_noTest {s : State} (h : NoTest s)
    (hmode : ¬(s.mode.mode = .run ∨ s.mode.mode = .pause)) : OneTest (completionCheck s) := by
  refine oneTest_of_noTest (noTest_completionCheck h) ?_
  rcases completionCheck_mode s with hsame | ⟨x, hx⟩
  · rwa [hsame]
  · rw [hx]
    exact x.mode_ne

theorem oneTest_completionCheck {s : State} (h : OneTest s) : OneTest (completionCheck s) := by
  by_cases hcomplete : targetComplete s = true
  · have hmode : ¬(s.mode.mode = .run ∨ s.mode.mode = .pause) := by
      rcases targetComplete_mode hcomplete with e | e <;> simp [e]
    exact oneTest_completionCheck_of_noTest (noTest_of_mode h hmode) hmode
  · unfold completionCheck
    simp only [hcomplete]
    split <;> exact h

/-- The entry to SETTLE, where the test has ended or none was. -/
theorem oneTest_enterSettle (x : Target) {s : State} (h : NoTest s) : OneTest (enterSettle x s) := by
  have hsettled : NoTest (setMode .settle (leakToVent s)) :=
    noTest_setMode .settle (noTest_congr (sameTest_of_view (view_leakToVent s)) h)
  refine oneTest_completionCheck_of_noTest (noTest_judgeMonitors (noTest_congr ⟨?_, rfl, fun i => Iff.rfl⟩ hsettled)) ?_
  · rfl
  · simp [setMode_mode]

theorem enterStopped_mode (m : Mode) (s : State) : (enterStopped m s).mode.mode = m := by
  simp [enterStopped, setMode_mode]

theorem normalDecision_mode (s : State) : (normalDecision s).mode.mode = .ready := by
  simp [normalDecision, setMode_mode]

theorem oneTest_enterStopped {m : Mode} {s : State} (hm : m = .stop ∨ m = .halt)
    (hone : ∀ i j, OnTest s i → OnTest s j → i = j) : OneTest (enterStopped m s) := by
  have hend : NoTest (endTest (dropTarget (leakToVent s))) := by
    refine noTest_endTest fun i j hi hj => hone i j ?_ ?_
    · exact (onTest_congr (by simp) i).mp hi
    · exact (onTest_congr (by simp) j).mp hj
  refine oneTest_of_noTest (noTest_judgeMonitors (noTest_congr ⟨rfl, rfl, fun i => Iff.rfl⟩ (noTest_setMode m hend))) ?_
  rw [enterStopped_mode]
  rcases hm with rfl | rfl <;> decide

/-! ## The step sequence keeps the test context -/

theorem reversalCheck_isSome (s : State) : (reversalCheck s).ctx.isSome = s.ctx.isSome := by
  unfold reversalCheck; (repeat' split) <;> simp_all

theorem reversalWait_isSome (c : TestContext) (s : State) : (reversalWait c s).ctx.isSome = true :=
  reversalCheck_isSome _

theorem enterReverse_isSome (c : TestContext) (s : State) : (enterReverse c s).ctx.isSome = true := by
  unfold enterReverse
  dsimp only
  generalize (if (s.demand.speed != 0) = true then startRamp 0 (rampTime c.copy c.step) s.demand else s.demand) = d
  simp only [referenceChange_frame]
  split
  · rfl
  · exact reversalWait_isSome c _

theorem seqAct_isSome (a : SeqAction) (s : State) : (seqAct a s).1.ctx.isSome = s.ctx.isSome := by
  unfold seqAct
  split
  case h_1 => rfl
  case h_2 c hc =>
    rw [hc]
    cases a with
    | startStep k =>
      unfold startStep
      dsimp only
      split
      · simp
      · split
        · simp
        · exact enterReverse_isSome _ _
    | enterRamp => simp [enterRamp]
    | enterHold =>
      dsimp only
      unfold enterHold
      split <;> simp
    | complete => unfold completeStep; dsimp only; (repeat' split) <;> simp [enterFinish]

theorem sameTest_seqAct (a : SeqAction) (s : State) : SameTest s (seqAct a s).1 :=
  sameTest_of_coarse (coarse_seqAct a s) (seqAct_isSome a s)

theorem SameTest.trans {s t u : State} (h : SameTest s t) (h' : SameTest t u) : SameTest s u :=
  ⟨h'.1.trans h.1, h'.2.1.trans h.2.1, fun i => (h'.2.2 i).trans (h.2.2 i)⟩

/-- An admitted START puts its record ON TEST, the only one, with the test context. -/
theorem oneTest_started {i : Fin 16} {copy : Items} {r : Record} {s : State} (hmode : s.mode.mode = .ready)
    (hr : recordAt s i = some r) (h : OneTest s) : OneTest (started i copy s) := by
  obtain ⟨hnone, -⟩ := noTest_of_mode h (by simp [hmode])
  have honTest (j : Fin 16) : OnTest (started i copy s) j ↔ j = i := by
    rw [onTest_congr (s := modifyRecord i (startRecord copy) s) (by simp [started]), onTest_modifyRecord]
    split
    case isTrue hj =>
      subst hj
      simp [hr, startRecord]
    case isFalse hj => simp [hj, hnone]
  have hctx : (started i copy s).ctx.isSome = true := by simp [started]
  have hrun : (started i copy s).mode.mode = .run := by simp [started, setMode_mode]
  refine ⟨fun j k hj hk => ((honTest j).mp hj).trans ((honTest k).mp hk).symm, ?_, ?_⟩
  · simp [honTest, hctx]
  · simp [hctx, hrun]

theorem pauseRunIn_isSome (s : State) : (pauseRunIn s).ctx.isSome = s.ctx.isSome := by
  unfold pauseRunIn
  (repeat' split) <;> simp_all

/-! ## Every effect keeps the test -/

theorem oneTest_safe : Safe OneTest OneTest OneTest where
  start h := h
  startQuiet hview := oneTest_congr (sameTest_of_view hview)
  quiet hview := oneTest_congr (sameTest_of_view hview)
  judge := oneTest_congr (sameTest_of_coarse (by simp) (by simp))
  latching _ := oneTest_congr (sameTest_of_coarse (by simp) (by simp))
  filterOff _ := oneTest_congr (sameTest_of_coarse (by simp) (by simp))
  stopped hm h := oneTest_enterStopped hm h.1
  complete := oneTest_completionCheck
  decision h := by
    refine oneTest_of_noTest (noTest_judgeMonitors (noTest_setMode .ready (noTest_endTest h.1))) ?_
    simp [normalDecision_mode]
  settle h hview := oneTest_enterSettle _ (noTest_congr (sameTest_of_view hview) (noTest_endTest h.1))
  settleReady hmode h := oneTest_enterSettle _ (noTest_of_mode h (by simp [hmode]))
  idle hmode _ h := by
    refine oneTest_of_noTest (noTest_judgeMonitors (noTest_setMode .idle (noTest_of_mode h (by simp [hmode])))) ?_
    simp [setMode_mode]
  ready hmode h hview := by
    have hnone := noTest_congr (sameTest_of_view hview) (noTest_setMode .ready (noTest_of_mode h (by simp [hmode])))
    refine oneTest_of_noTest (noTest_judgeMonitors hnone) ?_
    have hready : (view _).mode = (view (setMode .ready _)).mode := congrArg View.mode hview
    simp only [view, setMode_mode] at hready
    rw [judgeMonitors_mode, hready]
    decide
  pause {k s} hmode h := by
    have hrun := oneTest_setMode (m := .pause) (Or.inr rfl) (Or.inl hmode) h
    refine oneTest_congr (sameTest_of_coarse (coarse_enterPause k s) ?_) hrun
    simp only [enterPause, referenceChange_frame, leakPause_frame, pauseRunIn_isSome]
    split <;> rfl
  unpause hmode h :=
    oneTest_congr (sameTest_of_coarse (coarse_referenceChange _) (by simp))
      (oneTest_setMode (Or.inl rfl) (Or.inr hmode) h)
  clear := oneTest_congr (sameTest_of_coarse (by simp) (by simp [clearLatches]))
  cellStop {s} hmode h := by
    have hnone : NoTest (clearLatches (endTest s)) :=
      noTest_congr (sameTest_of_coarse (by simp) (by simp [clearLatches])) (noTest_endTest h.1)
    exact oneTest_of_noTest hnone (by simp [clearLatches, hmode])
  cellEnter {s} h := by
    have hnone : NoTest (clearLatches (endTest s)) :=
      noTest_congr (sameTest_of_coarse (by simp) (by simp [clearLatches])) (noTest_endTest h.1)
    exact oneTest_enterStopped (Or.inl rfl) fun i _ hi => absurd hi (hnone.1 i)
  fell _ _ := oneTest_congr (sameTest_of_coarse ((coarse_driveEnableFell _).trans (coarse_withMode_same _ _ rfl)) (by simp))
  rose h hview := by
    refine oneTest_congr ((sameTest_of_view hview).trans (sameTest_of_coarse (coarse_judgeMonitors _) (by simp)))
      (oneTest_congr ⟨rfl, rfl, fun _ => Iff.rfl⟩ h)
  finishStage hfinish := by
    obtain ⟨b, x, hb, -⟩ := hfinish
    exact oneTest_congr (sameTest_of_coarse (coarse_toFinishStage _ _ _ _) (by simp [toFinishStage, hb]))
  reversal := oneTest_congr (sameTest_of_coarse (coarse_reversalCheck _) (reversalCheck_isSome _))
  reversalWait hc _ :=
    oneTest_congr (sameTest_of_coarse (coarse_reversalWait _ _) (by rw [reversalWait_isSome, hc]; rfl))
  ofSequence h := h
  toSequence _ _ h := h
  act := oneTest_congr (sameTest_seqAct _ _)
  actNext h _ := oneTest_congr (sameTest_seqAct _ _) h
  ramp {c d s t} hc _ _ _ h hview := by
    have hsame : SameTest s (s.withCtx (some d)) := ⟨rfl, by simp [hc], fun _ => Iff.rfl⟩
    exact oneTest_congr ((hsame.trans (sameTest_of_view hview)).trans (sameTest_seqAct _ _)) h
  turn {c s} hc _ h := by
    have hsame : SameTest s (turned c s) := ⟨rfl, by simp [turned, hc], fun _ => Iff.rfl⟩
    exact ⟨oneTest_congr (hsame.trans (sameTest_seqAct _ _)) h,
      oneTest_congr (hsame.trans (sameTest_of_coarse (coarse_referenceChange _) (by simp))) h⟩
  begin hmode hr _ h := oneTest_started hmode hr h
  induct {i serial recipe retest seq next s} hempty := by
    refine oneTest_congr ⟨rfl, rfl, fun j => ?_⟩
    rw [OnTest, OnTest, recordAt_withSlot]
    split
    case isTrue hj => simp [hj, hempty, newRecord]
    case isFalse => rfl
  remove {i r s} hr hdecided := by
    refine oneTest_congr ⟨rfl, rfl, fun j => ?_⟩
    rw [OnTest, OnTest, recordAt_removeRecord]
    split
    case isTrue hj => simp [hj, hr, hdecided]
    case isFalse => rfl
  patch := by
    refine oneTest_congr ?_
    unfold patchWriteDecide
    dsimp only
    (repeat' split) <;> exact ⟨rfl, rfl, fun _ => Iff.rfl⟩
  pressure := oneTest_congr ⟨rfl, rfl, fun _ => Iff.rfl⟩
  reference := oneTest_congr ⟨rfl, rfl, fun _ => Iff.rfl⟩
  settings := oneTest_congr ⟨rfl, rfl, fun _ => Iff.rfl⟩

theorem oneTest_resetWith (g : GuardLevels) : OneTest (State.resetWith g) := by
  refine oneTest_of_noTest ⟨fun i hi => ?_, rfl⟩ (by simp [State.resetWith, resetMode])
  obtain ⟨r, hr, -⟩ := hi
  simp [recordAt, State.resetWith, resetQueue] at hr

end Sys2Proof.Machine
end

section

open Sys2Proof Sys2Proof.Machine

/-- Settles O56: the effects of a command that end the test context decide its record and lead out of RUN and PAUSE. -/
theorem oneTestStays : Obligations.OneTestStays := by
  intro s t h hstep
  have hone := step_safe oneTest_safe (fun h => passAcceptance_safe oneTest_safe _ _ (oneTest_congr ?_ h)) h hstep
  · rcases hone with hreset | ht
    · obtain ⟨g, hview⟩ := step_of_reset hstep hreset
      exact oneTest_congr (sameTest_of_view hview) (oneTest_resetWith g)
    · exact ht
  · exact ⟨rfl, rfl, fun _ => Iff.rfl⟩

end


section
/-! PROOF. A filter timer runs exactly while its monitor is active, its latch is CLEAR and its condition holds (R69 to R74). -/

namespace Sys2Proof.Machine

/-! ## What a judgement does -/

/-- The timer that a judgement leaves a monitor (R69). -/
def judgedTimer (s : State) (m : FilteredMonitor) : Timer :=
  if monitorActive s m = true ∧ latchSet s (monitorLatch m) = false ∧ (monitorFails s m).isSome = true then
    if (s.sup.filters.get m).isRunning then s.sup.filters.get m else .running (filterMs m)
  else .stopped

theorem Filters.set_get (f : Filters) (m : FilteredMonitor) : f.set m (f.get m) = f := by cases m <;> rfl

theorem judgeOne_eq (s : State) (m : FilteredMonitor) : judgeOne s m = setFilter m (judgedTimer s m) s := by
  have hkeep : s = setFilter m (s.sup.filters.get m) s := by
    rw [setFilter, Filters.set_get]
    rfl
  unfold judgeOne judgedTimer
  simp only [Bool.and_eq_true, Bool.not_eq_true', and_assoc]
  split
  · split
    · exact hkeep
    · rfl
  · rfl

/-- A judgement reads no timer but the monitor's own. -/
theorem judgedTimer_setFilter {m n : FilteredMonitor} (h : n ≠ m) (x : Timer) (s : State) :
    judgedTimer (setFilter m x s) n = judgedTimer s n := by
  have hown : (setFilter m x s).sup.filters.get n = s.sup.filters.get n := by simp [setFilter, h]
  have hactive : monitorActive (setFilter m x s) n = monitorActive s n := by cases n <;> rfl
  have hfails : monitorFails (setFilter m x s) n = monitorFails s n := by cases n <;> rfl
  rw [judgedTimer, hown, hactive, hfails]
  rfl

/-- A judgement of all monitors judges each on the state before it. -/
theorem judgeMonitors_eq (s : State) :
    judgeMonitors s =
      s.withSup
        { s.sup with
          filters :=
            ⟨judgedTimer s .overload, judgedTimer s .noReaction, judgedTimer s .wheelOverload, judgedTimer s .diff⟩ } := by
  simp only [judgeMonitors, allMonitors, List.foldl_cons, List.foldl_nil, judgeOne_eq]
  repeat rw [judgedTimer_setFilter (by decide)]
  rfl

theorem judgeMonitors_filters (s : State) (m : FilteredMonitor) :
    (judgeMonitors s).sup.filters.get m = judgedTimer s m := by
  rw [judgeMonitors_eq]
  cases m <;> rfl

@[simp] theorem judgedTimer_isRunning (s : State) (m : FilteredMonitor) :
    (judgedTimer s m).isRunning = true ↔
      monitorActive s m = true ∧ latchSet s (monitorLatch m) = false ∧ (monitorFails s m).isSome = true := by
  unfold judgedTimer
  split
  case isTrue h =>
    refine iff_of_true ?_ h
    split
    · assumption
    · rfl
  case isFalse h => exact iff_of_false (by simp [Timer.isRunning]) h

/-! ## What activities and conditions read -/

/-- The two states give every monitor the same activity and the same condition. -/
def SameMonitors (s t : State) : Prop :=
  ∀ m, monitorActive t m = monitorActive s m ∧ monitorFails t m = monitorFails s m

/-- What the monitors read of the test context. -/
def monitorContext (c : TestContext) : Items × Nat × Bool × Bool := (c.copy, c.step, c.phase == .hold, c.phase.moving)

theorem sameMonitors_of {s t : State} (henable : driveEnable t = driveEnable s) (hmode : t.mode.mode = s.mode.mode)
    (hlimit : t.demand.limit = s.demand.limit) (hheld : ∀ d, held t d = held s d)
    (hctx : t.ctx.map monitorContext = s.ctx.map monitorContext) : SameMonitors s t := by
  have htorque (d : DriveId) : torqueOf t d = torqueOf s d := by rw [torqueOf, torqueOf, hheld]
  have hwheel (p : Nat → Bool) : failingWheel t p = failingWheel s p := by simp only [failingWheel, htorque]
  intro m
  cases hs : s.ctx with
  | none =>
    have ht : t.ctx = none := by simpa [hs] using hctx
    cases m <;>
      simp [monitorActive, monitorFails, wheelReference, henable, hlimit, hheld, htorque, hwheel, hs, ht]
  | some c =>
    obtain ⟨d, ht, hsame⟩ : ∃ d, t.ctx = some d ∧ monitorContext d = monitorContext c := by simpa [hs] using hctx
    simp only [monitorContext, Prod.mk.injEq] at hsame
    obtain ⟨hcopy, hstep, hhold, hmoving⟩ := hsame
    cases m <;>
      simp [monitorActive, monitorFails, wheelReference, henable, hmode, hlimit, hheld, htorque, hwheel, hs, ht, hcopy,
        hstep, hhold, hmoving]

theorem sameMonitors_of_view {s t : State} (hview : view t = view s) : SameMonitors s t := by
  have hctx : t.ctx.map contextView = s.ctx.map contextView := congrArg View.ctx hview
  refine sameMonitors_of (congrArg View.enabled hview) (congrArg View.mode hview) (congrArg View.limit hview)
    (congrFun (congrArg View.held hview)) ?_
  have hread : monitorContext = (fun v : ContextView => (v.copy, v.step, v.phase == .hold, v.phase.moving)) ∘ contextView :=
    rfl
  rw [hread, ← Option.map_map, ← Option.map_map, hctx]

theorem monitorsJudged_congr {s t : State} (hsame : SameMonitors s t)
    (hlatches : ∀ m, latchSet t (monitorLatch m) = latchSet s (monitorLatch m))
    (hrunning : ∀ m, (t.sup.filters.get m).isRunning = (s.sup.filters.get m).isRunning) :
    MonitorsJudged s → MonitorsJudged t := by
  intro h m
  obtain ⟨hactive, hfails⟩ := hsame m
  rw [hrunning, hactive, hfails, hlatches]
  exact h m

theorem monitorsJudged_of_view {s t : State} (hview : view t = view s) : MonitorsJudged s → MonitorsJudged t := by
  have hlatches : t.sup.latches = s.sup.latches := congrArg View.latches hview
  exact monitorsJudged_congr (sameMonitors_of_view hview)
    (fun m => by rw [latchSet, latchSet, latchValue, latchValue, hlatches]) (congrFun (congrArg View.running hview))

/-- A judgement leaves every timer as R69 says. -/
theorem monitorsJudged_judgeMonitors (s : State) : MonitorsJudged (judgeMonitors s) := by
  intro m
  have hsame : SameMonitors s (judgeMonitors s) :=
    sameMonitors_of (by simp [driveEnable]) (by simp) (by simp) (fun d => by simp [held]) (by simp)
  obtain ⟨hactive, hfails⟩ := hsame m
  rw [judgeMonitors_filters, judgedTimer_isRunning, hactive, hfails, judgeMonitors_eq]
  rfl

theorem monitorsJudged_referenceChange (s : State) : MonitorsJudged (referenceChange s) :=
  monitorsJudged_judgeMonitors _

/-! ## The effects -/

theorem monitorLatch_inj {m n : FilteredMonitor} (h : monitorLatch m = monitorLatch n) : m = n := by
  revert h; cases m <;> cases n <;> decide

/-- One monitor's latch is set and its timer stopped; the others stand as they were. -/
theorem monitorsJudged_of_latched {m : FilteredMonitor} {s t : State} (hsame : SameMonitors s t)
    (hset : latchSet t (monitorLatch m) = true) (hstopped : (t.sup.filters.get m).isRunning = false)
    (hothers : ∀ n, n ≠ m → latchSet t (monitorLatch n) = latchSet s (monitorLatch n) ∧
      t.sup.filters.get n = s.sup.filters.get n) (h : MonitorsJudged s) : MonitorsJudged t := by
  intro n
  by_cases hn : n = m
  · subst hn
    simp [hset, hstopped]
  · obtain ⟨hlatch, htimer⟩ := hothers n hn
    obtain ⟨hactive, hfails⟩ := hsame n
    rw [htimer, hlatch, hactive, hfails]
    exact h n

/-- A filter timer is stopped where its latch is SET. -/
theorem monitorsJudged_setFilter {m : FilteredMonitor} {s : State} (hset : latchSet s (monitorLatch m) = true)
    (h : MonitorsJudged s) : MonitorsJudged (setFilter m .stopped s) :=
  monitorsJudged_of_latched (s := s) (sameMonitors_of rfl rfl rfl (fun _ => rfl) rfl) hset
    (by simp [setFilter, Timer.isRunning]) (fun n hn => ⟨rfl, by simp [setFilter, hn]⟩) h

theorem stopFilterOf_monitorLatch (m : FilteredMonitor) (s : State) :
    stopFilterOf (monitorLatch m) s = setFilter m .stopped s := by cases m <;> rfl

theorem stopFilterOf_of_ne {k : LatchKind} (h : ∀ m, monitorLatch m ≠ k) (s : State) : stopFilterOf k s = s := by
  cases k with
  | overload => exact absurd rfl (h .overload)
  | noReaction => exact absurd rfl (h .noReaction)
  | wheelOverload => exact absurd rfl (h .wheelOverload)
  | diff => exact absurd rfl (h .diff)
  | _ => rfl

theorem latchSet_storeLatch (k j : LatchKind) (v : Nat) (s : State) :
    latchSet (storeLatch k v s) j = if j = k then true else latchSet s j := by
  rw [latchSet, latchValue_storeLatch]
  split <;> rfl

/-- A latching sets its monitor's latch and stops its timer, where it is a monitor's. -/
theorem monitorsJudged_latching {k : LatchKind} {v : Nat} {s : State} (h : MonitorsJudged s) :
    MonitorsJudged (stopFilterOf k (storeLatch k v s)) := by
  have hsame (x : Supervision) : SameMonitors s (s.withSup x) := sameMonitors_of rfl rfl rfl (fun _ => rfl) rfl
  by_cases hk : ∃ m, monitorLatch m = k
  · obtain ⟨m, rfl⟩ := hk
    rw [stopFilterOf_monitorLatch]
    have hlatch (j : LatchKind) : latchSet (setFilter m .stopped (storeLatch (monitorLatch m) v s)) j =
        latchSet (storeLatch (monitorLatch m) v s) j := rfl
    refine monitorsJudged_of_latched (m := m) (hsame _) ?_ (by simp [setFilter, Timer.isRunning]) (fun n hn => ⟨?_, ?_⟩) h
    · rw [hlatch, latchSet_storeLatch, if_pos rfl]
    · rw [hlatch, latchSet_storeLatch, if_neg fun e => hn (monitorLatch_inj e)]
    · simp [setFilter, hn, storeLatch]
  · have hne (m : FilteredMonitor) : monitorLatch m ≠ k := fun e => hk ⟨m, e⟩
    rw [stopFilterOf_of_ne hne]
    refine monitorsJudged_congr (hsame _) (fun m => ?_) (fun _ => rfl) h
    rw [latchSet_storeLatch, if_neg (hne m)]

theorem monitorsJudged_fell {s : State} (hoff : driveEnable s = false) : MonitorsJudged (driveEnableFell s) := by
  intro m
  have hinactive : monitorActive (driveEnableFell s) m = false := by
    have henable : driveEnable (driveEnableFell s) = false := by simpa [driveEnable] using hoff
    cases m <;> simp only [monitorActive, henable] <;> split <;> rfl
  rw [hinactive]
  cases m <;> simp [driveEnableFell, Filters.get, Timer.isRunning]

/-- A test context that moves on within REVERSE or within FINISH, or keeps its phase, changes nothing for the monitors. -/
theorem monitorsJudged_withCtx {b c : TestContext} {s t : State} (ht : t = s.withCtx (some c)) (hb : s.ctx = some b)
    (hread : monitorContext c = monitorContext b) : MonitorsJudged s → MonitorsJudged t := by
  subst ht
  exact monitorsJudged_congr (sameMonitors_of rfl rfl rfl (fun _ => rfl) (by simp [hb, hread])) (fun _ => rfl) fun _ => rfl

theorem monitorsJudged_withDemand {x : Demand} {s : State} (hlimit : x.limit = s.demand.limit) :
    MonitorsJudged s → MonitorsJudged (s.withDemand x) :=
  monitorsJudged_congr (sameMonitors_of rfl rfl hlimit (fun _ => rfl) rfl) (fun _ => rfl) fun _ => rfl

theorem monitorsJudged_startStep (k : Nat) (c : TestContext) (s : State) : MonitorsJudged (startStep k c s).1 := by
  unfold startStep
  dsimp only
  split
  · exact monitorsJudged_referenceChange _
  · split
    · exact monitorsJudged_withDemand rfl (monitorsJudged_referenceChange _)
    · exact monitorsJudged_referenceChange _

theorem monitorsJudged_completeStep {c : TestContext} {s : State} (hc : s.ctx = some c) (h : MonitorsJudged s) :
    MonitorsJudged (completeStep c s).1 := by
  have hposted (f : RunInSection → RunInSection) : MonitorsJudged (postRunIn f s) :=
    monitorsJudged_of_view (view_postRunIn f s) h
  have hctx (f : RunInSection → RunInSection) : (postRunIn f s).ctx = some c := by simp [hc]
  unfold completeStep
  dsimp only
  split
  · exact monitorsJudged_withCtx rfl (hctx _) rfl (hposted _)
  · split
    · exact monitorsJudged_withCtx rfl (hctx _) rfl (hposted _)
    · exact monitorsJudged_referenceChange _

theorem monitorsJudged_seqAct {a : SeqAction} {s : State} (h : MonitorsJudged s) : MonitorsJudged (seqAct a s).1 := by
  unfold seqAct
  split
  case h_1 => exact h
  case h_2 c hc =>
    cases a with
    | startStep k => exact monitorsJudged_startStep k c s
    | enterRamp => exact monitorsJudged_referenceChange _
    | enterHold =>
      dsimp only
      unfold enterHold
      split <;> exact monitorsJudged_judgeMonitors _
    | complete => exact monitorsJudged_completeStep hc h

/-- The entry into RAMP judges, whatever the state. -/
theorem monitorsJudged_enterRamp {s : State} (hc : s.ctx.isSome = true) :
    MonitorsJudged (seqAct .enterRamp s).1 := by
  unfold seqAct
  split
  case h_1 hnone => simp [hnone] at hc
  case h_2 => exact monitorsJudged_referenceChange _

theorem monitorsJudged_reversalCheck {s : State} (h : MonitorsJudged s) : MonitorsJudged (reversalCheck s) := by
  unfold reversalCheck
  split
  case h_1 c hc =>
    split
    case h_1 hphase =>
      split
      · exact monitorsJudged_withCtx rfl hc (by simp [monitorContext, hphase, Phase.moving]) h
      · exact h
    case h_2 hphase =>
      split
      · exact h
      · exact monitorsJudged_withCtx rfl hc (by simp [monitorContext, hphase, Phase.moving]) h
    all_goals exact h
  case h_2 => exact h

theorem monitorsJudged_completionCheck {s : State} (h : MonitorsJudged s) : MonitorsJudged (completionCheck s) := by
  unfold completionCheck
  split
  · split
    · exact monitorsJudged_judgeMonitors _
    · exact h
  · exact h

theorem monitorsJudged_safe : Safe MonitorsJudged MonitorsJudged MonitorsJudged where
  start h := h
  startQuiet := monitorsJudged_of_view
  quiet := monitorsJudged_of_view
  judge _ := monitorsJudged_judgeMonitors _
  latching _ := monitorsJudged_latching
  filterOff := monitorsJudged_setFilter
  stopped _ _ := monitorsJudged_judgeMonitors _
  complete := monitorsJudged_completionCheck
  decision _ := monitorsJudged_judgeMonitors _
  settle _ _ := monitorsJudged_completionCheck (monitorsJudged_judgeMonitors _)
  settleReady _ _ := monitorsJudged_completionCheck (monitorsJudged_judgeMonitors _)
  idle _ _ _ := monitorsJudged_judgeMonitors _
  ready _ _ _ := monitorsJudged_judgeMonitors _
  pause _ _ := monitorsJudged_referenceChange _
  unpause _ _ := monitorsJudged_referenceChange _
  clear _ := monitorsJudged_judgeMonitors _
  cellStop _ _ := monitorsJudged_judgeMonitors _
  cellEnter _ := monitorsJudged_judgeMonitors _
  fell _ hoff _ := monitorsJudged_fell hoff
  rose _ _ := monitorsJudged_judgeMonitors _
  finishStage hfinish := by
    obtain ⟨b, x, hb, hphase, hcopy, hstep, -⟩ := hfinish
    exact monitorsJudged_withCtx rfl hb (by simp [monitorContext, hphase, hcopy, hstep, Phase.moving])
  reversal := monitorsJudged_reversalCheck
  reversalWait hc hphase h :=
    monitorsJudged_reversalCheck (monitorsJudged_withCtx rfl hc (by simp [monitorContext, hphase, Phase.moving]) h)
  ofSequence h := h
  toSequence _ _ h := h
  act := monitorsJudged_seqAct
  actNext h _ := monitorsJudged_seqAct h
  ramp _ _ _ _ _ hview := monitorsJudged_enterRamp (by rw [(sameTest_of_view hview).2.1]; rfl)
  turn _ _ _ := ⟨monitorsJudged_enterRamp rfl, monitorsJudged_referenceChange _⟩
  begin _ _ _ _ := monitorsJudged_judgeMonitors _
  induct _ := monitorsJudged_congr (sameMonitors_of rfl rfl rfl (fun _ => rfl) rfl) (fun _ => rfl) fun _ => rfl
  remove _ _ := monitorsJudged_congr (sameMonitors_of rfl rfl rfl (fun _ => rfl) rfl) (fun _ => rfl) fun _ => rfl
  patch {entry enabled recipe sect index field value s} h := by
    unfold patchWriteDecide
    dsimp only
    split
    · exact h
    · split
      · exact h
      · exact monitorsJudged_congr (sameMonitors_of rfl rfl rfl (fun _ => rfl) rfl) (fun _ => rfl) (fun _ => rfl) h
  pressure := monitorsJudged_congr (sameMonitors_of rfl rfl rfl (fun _ => rfl) rfl) (fun _ => rfl) fun _ => rfl
  reference := monitorsJudged_congr (sameMonitors_of rfl rfl rfl (fun _ => rfl) rfl) (fun _ => rfl) fun _ => rfl
  settings := monitorsJudged_congr (sameMonitors_of rfl rfl rfl (fun _ => rfl) rfl) (fun _ => rfl) fun _ => rfl

/-- An accepted status changes held values; the judgement that its acceptance brings follows, first or last (R67). -/
theorem monitorsJudged_passAcceptance (d : DriveId) (first : Bool) (s : State) :
    MonitorsJudged (passAcceptance d first s) := by
  have hjudged (t : State) : MonitorsJudged (monitorsAccept d t) :=
    monitorsAccept_safe_of_judged monitorsJudged_safe d (monitorsJudged_judgeMonitors t)
  unfold passAcceptance
  split
  · exact modeAccept_safe monitorsJudged_safe d (runInAccept_safe monitorsJudged_safe d (hjudged s))
  · exact hjudged _

theorem monitorsJudged_resetWith (g : GuardLevels) : MonitorsJudged (State.resetWith g) := by
  intro m
  have hinactive : monitorActive (State.resetWith g) m = false := by cases m <;> rfl
  rw [hinactive]
  cases m <;> simp [State.resetWith, resetSup, Filters.get, Timer.isRunning]

end Sys2Proof.Machine
end

section

open Sys2Proof Sys2Proof.Machine

/-- Settles O57: a judgement follows every effect that changes what a monitor reads. -/
theorem monitorsStayJudged : Obligations.MonitorsStayJudged := by
  intro s t h hstep
  rcases step_safe monitorsJudged_safe (fun _ => monitorsJudged_passAcceptance _ _ _) h hstep with hreset | ht
  · obtain ⟨g, hview⟩ := step_of_reset hstep hreset
    exact monitorsJudged_of_view hview (monitorsJudged_resetWith g)
  · exact ht

end


section
/-! PROOF. The demand direction turns at rest alone, and a running dwell timer stands in a DWELL at rest (R43, R44). -/

namespace Sys2Proof.Machine

/-! ## The dwell and the direction -/

/-- A running dwell timer stands in DWELL, and at rest where that is asked too. -/
def DwellStands (rest : Prop) (s : State) : Prop :=
  ∀ c, s.ctx = some c → c.dwell.isRunning = true → c.phase = .reverse .dwell ∧ (rest → atRest s = true)

/-- The dwell timer does not run. -/
def DwellOff (s : State) : Prop := ∀ c, s.ctx = some c → c.dwell.isRunning = false

/-- The direction is `d`, or the cell is at rest. -/
def DirectionKept (d : Direction) (s : State) : Prop := s.demand.direction = d ∨ atRest s = true

theorem atRest_congr {s t : State} (hheld : ∀ d, held t d = held s d) : atRest t = atRest s := by
  simp only [atRest, driveAtRest, hheld]

theorem atRest_of_link {s t : State} (hlink : t.link = s.link) : atRest t = atRest s :=
  atRest_congr fun d => by rw [held, held, hlink]

section
variable {rest : Prop} {d : Direction} {s t : State}

theorem DirectionKept.congr (hrest : atRest t = atRest s) (hdir : t.demand.direction = s.demand.direction)
    (h : DirectionKept d s) : DirectionKept d t := by
  rwa [DirectionKept, hdir, hrest]

/-- An effect that leaves the held statuses and the direction, and leaves the test context or ends it. -/
theorem dwell_of_frame (hlink : t.link = s.link) (hdir : t.demand.direction = s.demand.direction)
    (hctx : t.ctx = s.ctx ∨ t.ctx = none) (h : DwellStands rest s ∧ DirectionKept d s) :
    DwellStands rest t ∧ DirectionKept d t := by
  obtain ⟨hdwell, hkept⟩ := h
  have hrest := atRest_of_link hlink
  refine ⟨fun c hc hrun => ?_, hkept.congr hrest hdir⟩
  rcases hctx with hctx | hctx
  · rw [hrest]
    exact hdwell c (hctx ▸ hc) hrun
  · rw [hctx] at hc
    cases hc

theorem dwellStands_of_view (hview : view t = view s) (h : DwellStands rest s) : DwellStands rest t := by
  intro c hc hrun
  have hctx : t.ctx.map contextView = s.ctx.map contextView := congrArg View.ctx hview
  rw [hc, Option.map_some] at hctx
  obtain ⟨b, hb, hsame⟩ := Option.map_eq_some_iff.mp hctx.symm
  have hphase : b.phase = c.phase := congrArg ContextView.phase hsame
  have hdwell : b.dwell.isRunning = c.dwell.isRunning := congrArg ContextView.dwell hsame
  rw [← hphase, atRest_congr (congrFun (congrArg View.held hview))]
  exact h b hb (hdwell.trans hrun)

theorem directionKept_of_view (hview : view t = view s) (h : DirectionKept d s) : DirectionKept d t :=
  h.congr (atRest_congr (congrFun (congrArg View.held hview))) (congrArg View.direction hview)

theorem DwellOff.stands (h : DwellOff s) : DwellStands rest s := fun c hc hrun => by simp [h c hc] at hrun

/-- In another phase than DWELL the dwell timer does not run. -/
theorem DwellStands.off {c : TestContext} (h : DwellStands rest s) (hc : s.ctx = some c)
    (hphase : c.phase ≠ .reverse .dwell) : c.dwell.isRunning = false := by
  cases hrun : c.dwell.isRunning with
  | true => exact absurd (h c hc hrun).1 hphase
  | false => rfl

theorem dwellOff_withCtx {c : TestContext} (hctx : t.ctx = some c) (h : c.dwell.isRunning = false) : DwellOff t := by
  intro b hb
  obtain rfl : c = b := Option.some.inj (hctx.symm.trans hb)
  exact h

/-! ## The effects -/

/-- The check of a reversal leaves a running dwell timer at rest, even where it was not. -/
theorem dwellStands_reversalCheck (h : DwellStands rest s) : DwellStands True (reversalCheck s) := by
  unfold reversalCheck
  split
  case h_1 c hc =>
    have hoff (hphase : c.phase ≠ .reverse .dwell) : DwellStands True s :=
      (dwellOff_withCtx hc (h.off hc hphase)).stands
    split
    case h_1 hphase =>
      split
      case isTrue hrest =>
        intro b hb _
        cases hb
        exact ⟨rfl, fun _ => hrest⟩
      case isFalse => exact hoff (by simp [hphase])
    case h_2 hphase =>
      split
      case isTrue hrest =>
        intro b hb _
        obtain rfl : c = b := Option.some.inj (hc.symm.trans hb)
        exact ⟨hphase, fun _ => hrest⟩
      case isFalse => exact (dwellOff_withCtx rfl rfl).stands
    all_goals exact hoff (by simp [*])
  case h_2 hnone =>
    intro b hb
    rw [hnone] at hb
    cases hb

theorem DwellStands.mono (h : DwellStands True s) : DwellStands rest s :=
  fun c hc hrun => ⟨(h c hc hrun).1, fun _ => (h c hc hrun).2 trivial⟩

theorem dwell_reversalCheck (h : DwellStands rest s ∧ DirectionKept d s) :
    DwellStands True (reversalCheck s) ∧ DirectionKept d (reversalCheck s) :=
  ⟨dwellStands_reversalCheck h.1, h.2.congr (atRest_of_link (by simp)) (by simp)⟩

theorem completionCheck_direction (s : State) : (completionCheck s).demand.direction = s.demand.direction := by
  rw [completionCheck_demand]
  split <;> rfl

theorem enterStopped_direction (m : Mode) (s : State) :
    (enterStopped m s).demand.direction = s.demand.direction := by
  simp [enterStopped]

theorem enterSettle_direction (x : Target) (s : State) :
    (enterSettle x s).demand.direction = s.demand.direction := by
  simp [enterSettle, completionCheck_direction]

theorem enterStopped_ctx (m : Mode) (s : State) : (enterStopped m s).ctx = none := by
  simp [enterStopped, endTest_ctx]

theorem normalDecision_ctx (s : State) : (normalDecision s).ctx = none := by
  simp [normalDecision, endTest_ctx]

theorem setMode_demand (m : Mode) (s : State) : (setMode m s).demand = s.demand := by simp

theorem enterPause_direction (k : PauseKind) (s : State) :
    (enterPause k s).demand.direction = s.demand.direction := by
  have hpause (s : State) : (pauseRunIn s).demand.direction = s.demand.direction := by
    unfold pauseRunIn
    (repeat' split) <;> simp
  simp only [enterPause, referenceChange_frame, leakPause_frame, hpause]
  split <;> simp

/-- The frozen step timer is no dwell timer. -/
theorem dwellStands_enterPause (k : PauseKind) (h : DwellStands rest s) : DwellStands rest (enterPause k s) := by
  have hpaused (s t : State) (hctx : t.ctx = s.ctx) (hrest : atRest t = atRest s) (h : DwellStands rest s) :
      DwellStands rest (pauseRunIn t) := by
    intro c hc hrun
    have hkept : atRest (pauseRunIn t) = atRest s := (atRest_of_link (by simp)).trans hrest
    rw [hkept]
    unfold pauseRunIn at hc
    split at hc
    case h_1 b hb =>
      have hb' : s.ctx = some b := hctx.symm.trans hb
      split at hc
      · obtain rfl : b = c := Option.some.inj (hb.symm.trans hc)
        exact h b hb' hrun
      · cases hc
        exact h b hb' hrun
    case h_2 hnone =>
      rw [hnone] at hc
      cases hc
  intro c hc
  have hrest : atRest (enterPause k s) = atRest s := atRest_of_link (by simp)
  rw [hrest]
  simp only [enterPause, referenceChange_frame, leakPause_frame] at hc
  have hstands := hpaused s _ ?_ ?_ h c hc
  · rwa [atRest_of_link (pauseRunIn_frame _).2.2.1, atRest_of_link (s := s)] at hstands
    split <;> simp
  · split <;> simp
  · exact atRest_of_link (by split <;> simp)

/-! ## The step sequence -/

theorem judgeMonitors_ctx (s : State) : (judgeMonitors s).ctx = s.ctx := by simp

/-- The test context at a step start (R42). -/
def stepContext (k : Nat) (c : TestContext) : TestContext :=
  { c with step := k, stepTimer := .unloaded, resumeRamp := false, started := c.started.setIfInBounds k true }

/-- A step start up to its first phase (R42): the context, the run-in section and the reports to the other blocks. -/
def stepReported (k : Nat) (c : TestContext) (s : State) : State :=
  let t := postRunIn (fun r => { r with lastStep := k }) (s.withCtx (some (stepContext k c)))
  monitorsStepStart (leakStepStart (stepContext k c) (!(c.started[k]?.getD false)) (abandonBlock t))

@[simp] theorem stepReported_demand (k : Nat) (c : TestContext) (s : State) : (stepReported k c s).demand = s.demand := by
  simp [stepReported]

@[simp] theorem stepReported_link (k : Nat) (c : TestContext) (s : State) : (stepReported k c s).link = s.link := by
  simp [stepReported]

@[simp] theorem stepReported_mode (k : Nat) (c : TestContext) (s : State) : (stepReported k c s).mode = s.mode := by
  simp [stepReported]

theorem stepReported_ctx (k : Nat) (c : TestContext) (s : State) :
    (stepReported k c s).ctx = some (stepContext k c) := by
  simp [stepReported]

/-- A step start (R42): RAMP in the demand's direction, RAMP with the direction turned at rest, or REVERSE. -/
theorem startStep_eq (k : Nat) (c : TestContext) (s : State) :
    startStep k c s =
      if stepDirection c.copy k = s.demand.direction then (stepReported k c s, some .enterRamp)
      else if s.demand.speed = 0 ∧ atRest s = true then
        ((stepReported k c s).withDemand { s.demand with direction := stepDirection c.copy k }, some .enterRamp)
      else (enterReverse (stepContext k c) (stepReported k c s), none) := by
  rw [← stepReported_demand k c s, ← atRest_of_link (stepReported_link k c s)]
  rfl

theorem dwellOff_enterRamp {c : TestContext} (h : c.dwell.isRunning = false) (s : State) :
    DwellOff (enterRamp c s).1 := dwellOff_withCtx (c := { c with phase := .ramp }) (by simp [enterRamp]) h

theorem enterRamp_direction (c : TestContext) (s : State) :
    (enterRamp c s).1.demand.direction = s.demand.direction := by simp [enterRamp]

theorem dwell_referenceChange (h : DwellStands rest s ∧ DirectionKept d s) :
    DwellStands rest (referenceChange s) ∧ DirectionKept d (referenceChange s) :=
  dwell_of_frame (by simp) (by simp) (Or.inl (by simp)) h

/-- The test context at the entry into STANDSTILL WAIT of a reversal (R43). -/
def waiting (c : TestContext) : TestContext :=
  { c with phase := .reverse .standstillWait, standstill := .running Config.standstillMs }

theorem reversalWait_eq (c : TestContext) (s : State) :
    reversalWait c s = reversalCheck (s.withCtx (some (waiting c))) := rfl

theorem enterFinish_ctx (c : TestContext) (s : State) :
    (enterFinish c s).ctx = some { c with phase := .finish .rampDown } := by
  simp [enterFinish]

theorem enterHold_demand (c : TestContext) (s : State) : (enterHold c s).1.demand = s.demand := by
  unfold enterHold
  split <;> simp

/-- REVERSE begins without a dwell, or in a DWELL at rest. -/
theorem dwell_enterReverse {c : TestContext} (hoff : c.dwell.isRunning = false) (h : DirectionKept d s) :
    DwellStands True (enterReverse c s) ∧ DirectionKept d (enterReverse c s) := by
  unfold enterReverse
  dsimp only
  have hramped : (if (s.demand.speed != 0) = true then startRamp 0 (rampTime c.copy c.step) s.demand
      else s.demand).direction = s.demand.direction := by split <;> simp
  generalize (if (s.demand.speed != 0) = true then startRamp 0 (rampTime c.copy c.step) s.demand else s.demand) = x
    at hramped ⊢
  refine dwell_referenceChange ?_
  have hkept (y : Demand) (hy : y.direction = x.direction) (b : TestContext) :
      DirectionKept d ((s.withDemand y).withCtx (some b)) :=
    DirectionKept.congr (s := s) rfl (hy.trans hramped) h
  have hstands (y : Demand) (b : TestContext) (hb : b.dwell = c.dwell) :
      DwellStands True ((s.withDemand y).withCtx (some b)) := (dwellOff_withCtx rfl (hb ▸ hoff)).stands
  split
  · exact ⟨hstands _ { c with phase := .reverse .rampDown } rfl, hkept _ rfl { c with phase := .reverse .rampDown }⟩
  · exact dwell_reversalCheck ⟨hstands _ (waiting c) rfl, hkept _ rfl (waiting c)⟩

/-- A step start turns the direction at rest alone. -/
theorem dwell_startStep {k : Nat} {c : TestContext} (hoff : c.dwell.isRunning = false) (h : DirectionKept d s) :
    (DwellStands True (startStep k c s).1 ∧ DirectionKept d (startStep k c s).1) ∧
      ((startStep k c s).2 ≠ none → DwellOff (startStep k c s).1) := by
  have hstarted : DwellOff (stepReported k c s) := dwellOff_withCtx (stepReported_ctx k c s) hoff
  have hkept : DirectionKept d (stepReported k c s) := h.congr (atRest_of_link (by simp)) (by simp)
  rw [startStep_eq]
  split
  · exact ⟨⟨hstarted.stands, hkept⟩, fun _ => hstarted⟩
  · split
    case isTrue hstill =>
      have hrest : atRest (stepReported k c s) = true := (atRest_of_link (by simp)).trans hstill.2
      have hturned : DwellOff ((stepReported k c s).withDemand
          { s.demand with direction := stepDirection c.copy k }) := hstarted
      exact ⟨⟨hturned.stands, Or.inr hrest⟩, fun _ => hturned⟩
    case isFalse => exact ⟨dwell_enterReverse hoff hkept, fun hnext => absurd rfl hnext⟩

/-- A step completion, as long as it does not enter FINISH, moves in the test context alone. -/
theorem dwell_completeStep {c : TestContext} (hoff : c.dwell.isRunning = false) (h : DirectionKept d s) :
    DwellOff (completeStep c s).1 ∧ DirectionKept d (completeStep c s).1 := by
  have hposted (f : RunInSection → RunInSection) (b : TestContext) :
      DirectionKept d ((postRunIn f s).withCtx (some b)) := h.congr (atRest_of_link (by simp)) (by simp)
  unfold completeStep
  dsimp only
  split
  · exact ⟨dwellOff_withCtx rfl hoff, hposted _ _⟩
  · split
    · exact ⟨dwellOff_withCtx rfl hoff, hposted _ _⟩
    · exact ⟨dwellOff_withCtx (enterFinish_ctx _ _) hoff,
        h.congr (atRest_of_link (by simp)) (by simp [enterFinish])⟩

theorem dwell_seqAct {a : SeqAction} (h : DwellOff s ∧ DirectionKept d s) :
    (DwellStands True (seqAct a s).1 ∧ DirectionKept d (seqAct a s).1) ∧
      ((seqAct a s).2 ≠ none → DwellOff (seqAct a s).1) := by
  have hall {t : State} {b : Option SeqAction} (ht : DwellOff t ∧ DirectionKept d t) :
      (DwellStands True t ∧ DirectionKept d t) ∧ (b ≠ none → DwellOff t) :=
    ⟨⟨ht.1.stands, ht.2⟩, fun _ => ht.1⟩
  obtain ⟨hoff, hkept⟩ := h
  unfold seqAct
  split
  case h_1 => exact hall ⟨hoff, hkept⟩
  case h_2 c hc =>
    cases a with
    | startStep k => exact dwell_startStep (hoff c hc) hkept
    | enterRamp =>
      exact hall ⟨dwellOff_enterRamp (hoff c hc) s,
        hkept.congr (atRest_of_link (by simp)) (enterRamp_direction c s)⟩
    | enterHold =>
      refine hall ⟨?_, hkept.congr (atRest_of_link (by simp)) (congrArg Demand.direction (enterHold_demand c s))⟩
      dsimp only
      unfold enterHold
      split <;> exact dwellOff_withCtx (judgeMonitors_ctx _) (hoff c hc)
    | complete => exact hall (dwell_completeStep (hoff c hc) hkept)

end

/-! ## Every effect -/

theorem dwell_rampEntered {d : Direction} {s : State} (hoff : DwellOff s) (hkept : DirectionKept d s) :
    DwellOff (seqAct .enterRamp s).1 ∧ DirectionKept d (seqAct .enterRamp s).1 := by
  unfold seqAct
  split
  case h_1 => exact ⟨hoff, hkept⟩
  case h_2 c hc =>
    exact ⟨dwellOff_enterRamp (hoff c hc) s, hkept.congr (atRest_of_link (by simp)) (enterRamp_direction c s)⟩

theorem dwellOff_of_view {s t : State} (hview : view t = view s) (h : DwellOff s) : DwellOff t := by
  intro c hc
  have hctx : t.ctx.map contextView = s.ctx.map contextView := congrArg View.ctx hview
  rw [hc, Option.map_some] at hctx
  obtain ⟨b, hb, hsame⟩ := Option.map_eq_some_iff.mp hctx.symm
  have hdwell : b.dwell.isRunning = c.dwell.isRunning := congrArg ContextView.dwell hsame
  rw [← hdwell]
  exact h b hb

theorem dwell_of_view {rest : Prop} {d : Direction} {s t : State} (hview : view t = view s)
    (h : DwellStands rest s ∧ DirectionKept d s) : DwellStands rest t ∧ DirectionKept d t :=
  ⟨dwellStands_of_view hview h.1, directionKept_of_view hview h.2⟩

theorem dwell_of_endTest {rest : Prop} {d : Direction} {s t : State} (h : DwellStands rest s ∧ DirectionKept d s)
    (hview : view t = view (endTest s)) : DwellStands rest t ∧ DirectionKept d t :=
  dwell_of_view hview (dwell_of_frame (by simp) (by simp) (Or.inr (endTest_ctx s)) h)

theorem dwell_safe (rest : Prop) (d : Direction) :
    Safe (fun s => DwellStands True s ∧ s.demand.direction = d) (fun s => DwellStands rest s ∧ DirectionKept d s)
      (fun s => DwellOff s ∧ DirectionKept d s) where
  start h := ⟨h.1.mono, Or.inl h.2⟩
  startQuiet hview h := ⟨dwellStands_of_view hview h.1, (congrArg View.direction hview).trans h.2⟩
  quiet hview h := ⟨dwellStands_of_view hview h.1, directionKept_of_view hview h.2⟩
  judge := dwell_of_frame (by simp) (by simp) (Or.inl (by simp))
  latching _ := dwell_of_frame (by simp) (by simp) (Or.inl (by simp))
  filterOff _ := dwell_of_frame (by simp) (by simp) (Or.inl (by simp))
  stopped _ := dwell_of_frame (by simp) (enterStopped_direction _ _) (Or.inr (enterStopped_ctx _ _))
  complete := dwell_of_frame (by simp) (completionCheck_direction _) (Or.inl (by simp))
  decision := dwell_of_frame (by simp) (by simp) (Or.inr (normalDecision_ctx _))
  settle {x s t} h hview := by
    refine dwell_of_frame ?_ (enterSettle_direction x t) (Or.inl (by simp)) (dwell_of_endTest h hview)
    simp
  settleReady _ := dwell_of_frame (by simp) (enterSettle_direction _ _) (Or.inl (by simp))
  idle _ _ := dwell_of_frame (by simp) (by simp) (Or.inl (by simp))
  ready _ h hview := by
    refine dwell_of_frame (by simp) (by simp) (Or.inl (by simp)) (dwell_of_view hview ?_)
    exact dwell_of_frame (by simp) (by simp) (Or.inl (by simp)) h
  pause _ h := ⟨dwellStands_enterPause _ h.1, h.2.congr (atRest_of_link (by simp)) (enterPause_direction _ _)⟩
  unpause _ := dwell_of_frame (by simp) (by simp) (Or.inl (by simp))
  clear := dwell_of_frame (by simp [clearLatches]) (by simp [clearLatches]) (Or.inl (by simp [clearLatches]))
  cellStop _ := dwell_of_frame (by simp [clearLatches]) (by simp [clearLatches]) (Or.inr (by simp [clearLatches, endTest_ctx]))
  cellEnter := dwell_of_frame (by simp [clearLatches]) (by simp [enterStopped_direction, clearLatches]) (Or.inr (enterStopped_ctx _ _))
  fell _ _ := dwell_of_frame (by simp) (by simp) (Or.inl (by simp))
  rose h hview :=
    dwell_of_frame (by simp) (by simp) (Or.inl (by simp))
      (dwell_of_view hview (dwell_of_frame (by simp) (by simp) (Or.inl (by simp)) h))
  finishStage hfinish h := by
    obtain ⟨b, x, hb, hphase, -, -, hdwell⟩ := hfinish
    have hoff := h.1.off hb (by simp [hphase])
    exact ⟨(dwellOff_withCtx rfl (hdwell ▸ hoff)).stands, h.2.congr rfl rfl⟩
  reversal h := ⟨(dwell_reversalCheck h).1.mono, (dwell_reversalCheck h).2⟩
  reversalWait {c s} hc hphase h := by
    have hoff := h.1.off hc (by simp [hphase])
    have hwait : DwellStands rest (s.withCtx (some (waiting c))) :=
      (dwellOff_withCtx (c := waiting c) rfl hoff).stands
    have hchecked := dwell_reversalCheck (d := d) ⟨hwait, h.2.congr rfl rfl⟩
    exact ⟨hchecked.1.mono, hchecked.2⟩
  ofSequence h := ⟨h.1.stands, h.2⟩
  toSequence hc hphase h := ⟨dwellOff_withCtx hc (h.1.off hc hphase), h.2⟩
  act h := ⟨(dwell_seqAct h).1.1.mono, (dwell_seqAct h).1.2⟩
  actNext h hnext := ⟨(dwell_seqAct h).2 (by simp [hnext]), (dwell_seqAct h).1.2⟩
  ramp {c b s t} hc _ _ hdwell h hview := by
    have hoff : DwellOff (s.withCtx (some b)) := dwellOff_withCtx rfl (hdwell ▸ h.1 c hc)
    have hkept : DirectionKept d (s.withCtx (some b)) := h.2.congr rfl rfl
    exact dwell_rampEntered (dwellOff_of_view hview hoff) (directionKept_of_view hview hkept)
  turn {c s} hc hrun h := by
    have hoff : DwellOff (turned c s) :=
        dwellOff_withCtx (c := { c with phase := .ramp, dwell := .stopped, standstill := .stopped }) rfl rfl
    have hkept : DirectionKept d (turned c s) := Or.inr ((h.1 c hc hrun).2 trivial)
    exact ⟨dwell_rampEntered hoff hkept, dwell_referenceChange ⟨hoff.stands, hkept⟩⟩
  begin {i copy r s} _ _ _ h := by
    refine ⟨dwellOff_withCtx (c := newContext copy) (by simp [started]) rfl, h.2.congr (atRest_of_link ?_) ?_⟩
    · simp [started]
    · simp [started]
  induct _ h := ⟨h.1.mono, Or.inl h.2⟩
  remove _ _ h := ⟨h.1.mono, Or.inl h.2⟩
  patch {entry enabled recipe sect index field value s} h := by
    unfold patchWriteDecide
    dsimp only
    (repeat' split) <;> exact h
  pressure h := h
  reference h := ⟨h.1.mono, Or.inl h.2⟩
  settings h := ⟨h.1.mono, Or.inl h.2⟩

/-! ## An accepted status message -/

/-- New held speeds may leave a running dwell timer not at rest; the reversal's check at the acceptance mends it (R43, R66). -/
theorem dwell_passAcceptance (d : DriveId) (r : DriveStatus) (first : Bool) {e : Direction} {s : State}
    (h : DwellStands True s ∧ s.demand.direction = e) :
    DwellStands True (passAcceptance d first (acceptStatus d r s)) ∧
      DirectionKept e (passAcceptance d first (acceptStatus d r s)) := by
  have weak := dwell_safe False e
  have strong := dwell_safe True e
  obtain ⟨hdwell, hdir⟩ := h
  have haccepted : DwellStands False (acceptStatus d r s) ∧ DirectionKept e (acceptStatus d r s) :=
    ⟨fun c hc hrun => ⟨(hdwell c hc hrun).1, False.elim⟩, Or.inl hdir⟩
  have hmend {t : State} (h : DwellStands False t ∧ DirectionKept e t) :
      DwellStands True (runInAccept d t) ∧ DirectionKept e (runInAccept d t) :=
    finishCheck_safe strong (dwell_reversalCheck (dwell_of_view (view_postTorque d t) h))
  unfold passAcceptance
  split
  · exact modeAccept_safe strong d (hmend (monitorsAccept_safe_of_judged weak d (weak.judge haccepted)))
  · exact monitorsAccept_safe_of_judged strong d (strong.judge (modeAccept_safe strong d (hmend haccepted)))

theorem dwellAtRest_iff (s : State) : DwellAtRest s ↔ DwellStands True s := by
  simp [DwellAtRest, DwellStands]

end Sys2Proof.Machine
end

section

open Sys2Proof Sys2Proof.Machine

/-- Settles O58: the direction turns at a dwell's end and at a step start at rest alone, and a dwell timer starts at rest and stops where
a held speed is not. -/
theorem directionTurnsAtRest : Obligations.DirectionTurnsAtRest := by
  intro s t h hstep
  have hS : DwellStands True s ∧ s.demand.direction = s.demand.direction := ⟨(dwellAtRest_iff s).mp h, rfl⟩
  rcases step_safe (dwell_safe True s.demand.direction) (dwell_passAcceptance _ _ _) hS hstep with hreset | ht
  · obtain ⟨g, hview⟩ := step_of_reset hstep hreset
    have hnone : DwellStands True (State.resetWith g) := fun c hc => nomatch hc
    exact ⟨(dwellAtRest_iff t).mpr (dwellStands_of_view hview hnone), fun _ => Or.inl hreset⟩
  · exact ⟨(dwellAtRest_iff t).mpr ht.1, fun hturned => Or.inr (ht.2.resolve_left hturned)⟩

end


section
/-! PROOF. The step, the invariants at reset, a latch that is SET, and the timers that ask the converter. -/

namespace Sys2Proof.Machine

/-! ## The step and reset -/

/-- Settles O1. -/
theorem stepRunsFront : Obligations.StepRunsFront := by
  intro c rest s
  rfl

theorem marksRouted_resetWith (g : GuardLevels) : MarksRouted (State.resetWith g) :=
  (marksRouted_iff _).mpr (resetWith_routed g)

theorem dwellAtRest_resetWith (g : GuardLevels) : DwellAtRest (State.resetWith g) := fun _ hc => nomatch hc

/-- Settles O53: each invariant's own lemma about the reset state. -/
theorem invariantsAtReset : Obligations.InvariantsAtReset := fun g =>
  ⟨marksRouted_resetWith g, patchesDistinct_resetWith g, oneTest_resetWith g, monitorsJudged_resetWith g,
    dwellAtRest_resetWith g, rfl⟩

/-! ## A latch that is SET -/

theorem abandonBlock_sup (s : State) : (abandonBlock s).sup = s.sup := rfl

theorem judgeMonitors_latches (s : State) : (judgeMonitors s).sup.latches = s.sup.latches := by
  rw [judgeMonitors_eq]
  rfl

theorem referenceChange_latches (s : State) : (referenceChange s).sup.latches = s.sup.latches :=
  judgeMonitors_latches _

theorem endContext_latches (s : State) : (endContext s).sup.latches = s.sup.latches := by
  unfold endContext
  split
  · exact referenceChange_latches _
  · rfl

/-- The decision of a record leaves the latches. -/
theorem endTest_latches (s : State) : (endTest s).sup.latches = s.sup.latches := by
  unfold endTest
  (repeat' split) <;> simp [endContext_latches]

theorem setMode_latches (m : Mode) (s : State) : (setMode m s).sup.latches = s.sup.latches := by
  have hleft : (modeLeft m s).sup.latches = s.sup.latches := congrArg View.latches (view_modeLeft m s)
  rw [setMode_eq]
  split <;> exact hleft

/-- The entry to STOP or HALT leaves the latches. -/
theorem enterStopped_latches (m : Mode) (s : State) : (enterStopped m s).sup.latches = s.sup.latches := by
  unfold enterStopped
  dsimp only
  rw [judgeMonitors_latches]
  simp [setMode_latches, endTest_latches]

theorem stopCause_latches (s : State) : (stopCause s).sup.latches = s.sup.latches := by
  unfold stopCause
  split
  · exact enterStopped_latches _ _
  · rfl

theorem stopCause_of_inactive {s : State} (h : s.mode.mode.active = false) : stopCause s = s := by
  simp [stopCause, h]

/-- Settles O20: a SET latch is not stored again, and its cause of STOP acts in an active mode alone. -/
theorem setLatchKeepsValue : Obligations.SetLatchKeepsValue := by
  refine ⟨fun k v s hset hquiet => ?_, fun k v s hset => ?_⟩
  · rw [latch_of_set v hset]
    rcases hquiet with hmode | hkind
    · simp [stopCause_of_inactive hmode]
    · simp [hkind]
  · rw [latch_of_set v hset]
    split
    · exact stopCause_latches s
    · rfl

/-! ## Timers that ask the converter -/

theorem requestUnlessPending_of_pending {r : Requester} (q : Request) {s : State}
    (h : (s.conv.waiting.get r).isSome = true) : requestUnlessPending r q s = s := if_pos h

theorem requestUnlessPending_of_free {r : Requester} (q : Request) {s : State}
    (h : ¬(s.conv.waiting.get r).isSome = true) : requestUnlessPending r q s = request r q s := if_neg h

/-- Settles O21: each expiry restarts its timer and asks unless a request is pending. -/
theorem requestTimersAsk : Obligations.RequestTimersAsk := by
  intro s
  constructor
  · intro hrun
    have hexec : exec .oilRequestTimerExpiry s = .next (oilRequestExpiry s) := rfl
    rw [hexec, oilRequestExpiry, if_pos hrun]
    by_cases hpending : s.conv.waiting.oil.isSome = true
    · rw [requestUnlessPending_of_pending _ (by exact hpending), if_pos hpending]
      rfl
    · rw [requestUnlessPending_of_free _ (by exact hpending), if_neg hpending]
      rfl
  · intro hrun hphase
    have hexec : exec .leakRequestTimerExpiry s = .next (leakRequestExpiry s) := rfl
    rw [hexec, leakRequestExpiry, if_pos ⟨hrun, hphase⟩]
    by_cases hpending : s.conv.waiting.leak.isSome = true
    · rw [requestUnlessPending_of_pending _ (by exact hpending), if_pos hpending]
      rfl
    · rw [requestUnlessPending_of_free _ (by exact hpending), if_neg hpending]
      rfl

/-- Settles O29: the three expiries ask for their bursts. -/
theorem burstTimersAsk : Obligations.BurstTimersAsk := by
  refine ⟨fun s c hc => ⟨fun hphase hrun => ?_, fun hphase hrun => ?_⟩, fun s k hcheck hrun => ?_⟩
  · have hexec : exec .leakSettleTimerExpiry s = .next (leakSettleExpiry s) := rfl
    rw [hexec, leakSettleExpiry, hc]
    dsimp only
    rw [if_pos ⟨hphase, hrun⟩]
    rfl
  · have hexec : exec .measureTimerExpiry s = .next (measureExpiry s) := rfl
    rw [hexec, measureExpiry, hc]
    dsimp only
    rw [if_pos ⟨hphase, hrun⟩]
    rfl
  · have hexec : exec .checkTimerExpiry s = .next (checkExpiry s) := rfl
    rw [hexec]
    simp only [checkExpiry, hcheck, hrun, if_true]
    rfl

/-! ## The compensated leak rate -/

/-- A quotient of the sum with half the divisor is the quotient rounded to nearest, a half up. -/
theorem div_rounds (n : Nat) {d : Nat} (hd : 0 < d) :
    2 * ((n + d / 2) / d * d) ≤ 2 * n + d ∧ 2 * n < 2 * ((n + d / 2) / d * d) + d + d % 2 := by
  have hdiv := Nat.div_add_mod' (n + d / 2) d
  have hmod := Nat.mod_lt (n + d / 2) hd
  omega

/-- Settles O30: both quotients of R114 are rounded, the second under its clamp. -/
theorem leakRateRounds : Obligations.LeakRateRounds := by
  intro a e m hm ha
  have hexpected := div_rounds (a.pressure * e.temperature) ha
  refine ⟨hexpected.1, hexpected.2, ?_, fun rate hrate => ?_⟩
  · unfold leakRate
    split <;> simp_all
  · unfold leakRate at hrate
    split at hrate
    · cases hrate
    · cases hrate
      have hrate := div_rounds ((expectedPressure a e - e.pressure) * 60000) hm
      generalize ((expectedPressure a e - e.pressure) * 60000 + m / 2) / m = rate at hrate ⊢
      have hclamp : min 65535 rate * m ≤ rate * m := Nat.mul_le_mul_right m (Nat.min_le_right ..)
      refine ⟨Nat.min_le_left .., by omega, fun hlt => ?_⟩
      have hsame : min 65535 rate = rate := by omega
      rw [hsame]
      exact hrate.2

end Sys2Proof.Machine
end


section
/-! SUPPORT. What the searches for a record answer (R145, R147), and the frame ends of the commands that this part speaks of. -/

namespace Sys2Proof.Machine

/-! ## Slots -/

theorem slotOf_of_val {slot : Byte} {i : Fin 16} (h : i.val = slot.toNat) : slotOf slot = some i := by
  have hlt : slot.toNat < 16 := h ▸ i.isLt
  simp only [slotOf, hlt, dif_pos, Option.some.injEq]
  exact Fin.ext h.symm

theorem slotOf_of_le {slot : Byte} (h : 16 ≤ slot.toNat) : slotOf slot = none := by
  simp [slotOf, Nat.not_lt.mpr h]

theorem slotHas_iff {s : State} {p : Record → Bool} {i : Fin 16} :
    slotHas s p i = true ↔ ∃ r, recordAt s i = some r ∧ p r = true := by
  unfold slotHas
  split <;> simp_all

theorem emptySlot_eq_none {s : State} : emptySlot s = none ↔ ∀ i, recordAt s i ≠ none := by
  simp [emptySlot, List.find?_eq_none, mem_allSlots]

/-- The slots stand in their order. -/
theorem allSlots_pairwise : allSlots.Pairwise (· < ·) := by decide

/-- A search of the slots answers the lowest of which the condition holds. -/
theorem find?_allSlots {p : Fin 16 → Bool} {i : Fin 16} (hi : p i = true) (hfirst : ∀ j, j < i → p j = false) :
    allSlots.find? p = some i := by
  obtain ⟨before, after, hsplit⟩ := List.append_of_mem (mem_allSlots i)
  refine List.find?_eq_some_iff_append.mpr ⟨hi, before, after, hsplit, fun j hj => ?_⟩
  have hlt : j < i := by
    have hordered := hsplit ▸ allSlots_pairwise
    exact (List.pairwise_append.mp hordered).2.2 j hj i List.mem_cons_self
  simp [hfirst j hlt]

/-- The lowest empty slot. -/
theorem emptySlot_eq_some {s : State} {i : Fin 16} (hi : recordAt s i = none) (hfirst : ∀ j, j < i → recordAt s j ≠ none) :
    emptySlot s = some i :=
  find?_allSlots (by simp [hi]) fun j hj => by simpa [Option.isSome_iff_ne_none] using hfirst j hj

/-- With one record ON TEST, the search finds its slot. -/
theorem onTestSlot_of_none {s : State} (h : ∀ i, ¬OnTest s i) : onTestSlot s = none :=
  onTestSlot_none.mpr fun i r hr hstate => h i ⟨r, hr, hstate⟩

theorem onTest_of_onTestSlot {s : State} {i : Fin 16} (h : onTestSlot s = some i) : OnTest s i := onTestSlot_some h

theorem onTestSlot_isNone {s : State} : (onTestSlot s).isNone = true ↔ ∀ i, ¬OnTest s i := by
  constructor
  · intro h i hi
    obtain ⟨r, hr, hstate⟩ := hi
    exact onTestSlot_none.mp (Option.isNone_iff_eq_none.mp h) i r hr hstate
  · intro h
    rw [onTestSlot_of_none h]
    rfl

/-! ## The oldest record -/

/-- The place of a slot's record in the order of induction, counted from `base`. -/
def seqAge (s : State) (base : Word16) (i : Fin 16) : Nat := ((recordAt s i).map fun r => (r.seq - base).toNat).getD 0

/-- Numbers within 32,768 of each other compare as their distances from `base` (R145). -/
theorem olderSeq_iff {a b base : Word16} (ha : (a - base).toNat ≤ 32767) (hb : (b - base).toNat ≤ 32767) :
    olderSeq a b = true ↔ (a - base).toNat < (b - base).toNat := by
  simp only [olderSeq, decide_eq_true_eq]
  bv_omega

/-- The step of the search for the oldest record. -/
def olderOf (s : State) (best : Option (Fin 16)) (i : Fin 16) : Option (Fin 16) :=
  match best with
  | none => some i
  | some j => if olderSlot s i j then some i else some j

theorem oldestSlot_eq (s : State) (p : Record → Bool) :
    oldestSlot s p = (allSlots.filter (slotHas s p)).foldl (olderOf s) none := rfl

/-- The search keeps the slot of the least age. -/
theorem foldl_olderOf {s : State} {base : Word16} (l : List (Fin 16)) (j : Fin 16)
    (holder : ∀ a ∈ j :: l, ∀ b ∈ j :: l, olderSlot s a b = true ↔ seqAge s base a < seqAge s base b) :
    ∃ i ∈ j :: l, l.foldl (olderOf s) (some j) = some i ∧ ∀ k ∈ j :: l, seqAge s base i ≤ seqAge s base k := by
  induction l generalizing j with
  | nil => exact ⟨j, by simp, rfl, by simp⟩
  | cons k l ih =>
    have hcompare := holder k (by simp) j (by simp)
    rw [List.foldl_cons, olderOf]
    split
    case isTrue hlt =>
      have hlt := hcompare.mp hlt
      obtain ⟨i, hi, hfold, hleast⟩ := ih k fun a ha b hb =>
        holder a (List.mem_cons_of_mem j ha) b (List.mem_cons_of_mem j hb)
      refine ⟨i, List.mem_cons_of_mem j hi, hfold, fun m hm => ?_⟩
      have hk := hleast k (by simp)
      rcases List.mem_cons.mp hm with rfl | hm
      · omega
      · exact hleast m hm
    case isFalse hge =>
      have hge := Nat.not_lt.mp (fun h => hge (hcompare.mpr h))
      have hsub {a : Fin 16} (ha : a ∈ j :: l) : a ∈ j :: k :: l := by
        rcases List.mem_cons.mp ha with rfl | ha <;> simp [*]
      obtain ⟨i, hi, hfold, hleast⟩ := ih j fun a ha b hb => holder a (hsub ha) b (hsub hb)
      refine ⟨i, hsub hi, hfold, fun m hm => ?_⟩
      have hj := hleast j (by simp)
      rcases List.mem_cons.mp hm with rfl | hm
      · exact hj
      · rcases List.mem_cons.mp hm with rfl | hm
        · omega
        · exact hleast m (List.mem_cons_of_mem j hm)

theorem oldestSlot_eq_none {s : State} {p : Record → Bool} :
    oldestSlot s p = none ↔ ∀ i r, recordAt s i = some r → p r = false := by
  have hsome (l : List (Fin 16)) (j : Fin 16) : l.foldl (olderOf s) (some j) ≠ none := by
    induction l generalizing j with
    | nil => simp
    | cons k l ih =>
      rw [List.foldl_cons, olderOf]
      split <;> exact ih _
  have hfilter : allSlots.filter (slotHas s p) = [] ↔ ∀ i r, recordAt s i = some r → p r = false := by
    simp only [List.filter_eq_nil_iff, mem_allSlots, true_implies, slotHas_iff, not_exists, not_and, Bool.not_eq_true]
  rw [← hfilter, oldestSlot_eq]
  cases allSlots.filter (slotHas s p) with
  | nil => simp
  | cons j l => exact iff_of_false (hsome l j) (by simp)

/-- Settles O35: the search keeps the least distance from `base`, which the comparison orders. -/
theorem oldestIsFirst : Obligations.OldestIsFirst := by
  intro s p base hspan
  refine ⟨oldestSlot_eq_none, fun i hi => ?_⟩
  obtain ⟨r, hr, hp⟩ := oldestSlot_some hi
  refine ⟨r, hr, hp, fun j b hb hpb hne => ?_⟩
  have hage {k : Fin 16} {q : Record} (hk : recordAt s k = some q) : seqAge s base k = (q.seq - base).toNat := by
    simp [seqAge, hk]
  have holder (a c : Fin 16) (ha : slotHas s p a = true) (hc : slotHas s p c = true) :
      olderSlot s a c = true ↔ seqAge s base a < seqAge s base c := by
    obtain ⟨x, hx, -⟩ := slotHas_iff.mp ha
    obtain ⟨y, hy, -⟩ := slotHas_iff.mp hc
    simp only [olderSlot, hx, hy, hage hx, hage hy]
    exact olderSeq_iff (hspan a x hx) (hspan c y hy)
  have hleast : seqAge s base i ≤ seqAge s base j := by
    have hmem : j ∈ allSlots.filter (slotHas s p) :=
      List.mem_filter.mpr ⟨mem_allSlots j, slotHas_iff.mpr ⟨b, hb, hpb⟩⟩
    have hall {a : Fin 16} (ha : a ∈ allSlots.filter (slotHas s p)) : slotHas s p a = true := (List.mem_filter.mp ha).2
    rw [oldestSlot_eq] at hi
    cases hl : allSlots.filter (slotHas s p) with
    | nil => simp [hl] at hmem
    | cons k l =>
      rw [hl] at hi hmem hall
      obtain ⟨m, -, hfold, hleast⟩ := foldl_olderOf (base := base) l k fun a ha c hc => holder a c (hall ha) (hall hc)
      have hsame : some m = some i := hfold.symm.trans hi
      cases hsame
      exact hleast j hmem
  rw [hage hr, hage hb] at hleast
  have hr' := hspan i r hr
  have hb' := hspan j b hb
  bv_omega

/-! ## INDUCT -/

theorem exec_induct {s : State} (hopen : PortOpen .line s) (serial : List Byte) (recipe : Byte) :
    exec (.induct .line serial recipe) s =
      .next (reply .line (inductDecide serial recipe s).1 (inductDecide serial recipe s).2) :=
  congrArg Host.Outcome.next (portRequest_of_open hopen rfl _)

theorem exec_start {s : State} (hopen : PortOpen .line s) :
    exec (.start .line) s = .next (reply .line (startDecide s).1 (startDecide s).2) :=
  congrArg Host.Outcome.next (portRequest_of_open hopen rfl _)

theorem exec_verdict {s : State} (hopen : PortOpen .line s) :
    exec (.verdict .line) s = .next (reply .line (verdictDecide s).1 (verdictDecide s).2) :=
  congrArg Host.Outcome.next (portRequest_of_open hopen rfl _)

theorem exec_archive {s : State} (hopen : PortOpen .cell s) (slot : Byte) :
    exec (.archive .cell slot) s = .next (reply .cell (archiveDecide slot s).1 (archiveDecide slot s).2) :=
  congrArg Host.Outcome.next (portRequest_of_open hopen rfl _)

theorem exec_recordRead_cell {s : State} (hopen : PortOpen .cell s) (slot sect chunk : Byte) :
    exec (.recordRead .cell slot sect chunk) s = .next (reply .cell (recordReadDecide slot sect chunk s).1 s) :=
  (congrArg Host.Outcome.next (portRequest_of_open hopen rfl _)).trans (by rw [recordReadDecide_snd])

/-- The step of the search for the highest retest number. -/
def retestOf (s : State) (n : Nat) (i : Fin 16) : Nat :=
  match recordAt s i with
  | some r => max n (r.retest + 1)
  | none => n

theorem nextRetest_eq (s : State) (serial : List Byte) :
    nextRetest s serial = (allSlots.filter (slotHas s fun r => r.serial == serial)).foldl (retestOf s) 0 := rfl

/-- The search keeps the greatest of the start value and the retest numbers plus 1. -/
theorem foldl_retestOf (s : State) (l : List (Fin 16)) (n : Nat) :
    n ≤ l.foldl (retestOf s) n ∧ (∀ i ∈ l, ∀ r, recordAt s i = some r → r.retest < l.foldl (retestOf s) n) ∧
      (l.foldl (retestOf s) n = n ∨ ∃ i ∈ l, ∃ r, recordAt s i = some r ∧ r.retest + 1 = l.foldl (retestOf s) n) := by
  induction l generalizing n with
  | nil => simp
  | cons k l ih =>
    obtain ⟨hge, hall, hone⟩ := ih (retestOf s n k)
    rw [List.foldl_cons]
    have hstep : n ≤ retestOf s n k ∧ (∀ r, recordAt s k = some r → r.retest < retestOf s n k) ∧
        (retestOf s n k = n ∨ ∃ r, recordAt s k = some r ∧ r.retest + 1 = retestOf s n k) := by
      unfold retestOf
      split
      case h_1 r hr =>
        refine ⟨by omega, fun q hq => ?_, ?_⟩
        · cases hr.symm.trans hq
          omega
        · by_cases hmax : r.retest + 1 ≤ n
          · exact Or.inl (Nat.max_eq_left hmax)
          · exact Or.inr ⟨r, hr, by omega⟩
      case h_2 hnone => simp [hnone]
    obtain ⟨hn, hk, hnk⟩ := hstep
    refine ⟨hn.trans hge, fun i hi r hr => ?_, ?_⟩
    · rcases List.mem_cons.mp hi with rfl | hi
      · exact (hk r hr).trans_le hge
      · exact hall i hi r hr
    · rcases hone with hsame | ⟨i, hi, r, hr, hmax⟩
      · rw [hsame]
        exact hnk.imp_right fun ⟨r, hr, hmax⟩ => ⟨k, List.mem_cons_self, r, hr, hmax⟩
      · exact Or.inr ⟨i, List.mem_cons_of_mem k hi, r, hr, hmax⟩

/-- The retest number at an INDUCT: above every one of the serial, and one above one of them unless 0 (R147). -/
theorem nextRetest_spec (s : State) (serial : List Byte) :
    (∀ j r, recordAt s j = some r → r.serial = serial → r.retest < nextRetest s serial) ∧
      (nextRetest s serial ≠ 0 → ∃ j r, recordAt s j = some r ∧ r.serial = serial ∧ r.retest + 1 = nextRetest s serial) := by
  obtain ⟨-, hall, hone⟩ := foldl_retestOf s (allSlots.filter (slotHas s fun r => r.serial == serial)) 0
  rw [← nextRetest_eq] at hall hone
  refine ⟨fun j r hr hserial => hall j ?_ r hr, fun hne => ?_⟩
  · exact List.mem_filter.mpr ⟨mem_allSlots j, slotHas_iff.mpr ⟨r, hr, by simpa using hserial⟩⟩
  · obtain ⟨j, hj, r, hr, hmax⟩ := hone.resolve_left hne
    obtain ⟨q, hq, hserial⟩ := slotHas_iff.mp (List.mem_filter.mp hj).2
    cases hr.symm.trans hq
    exact ⟨j, r, hr, by simpa using hserial, hmax⟩

/-- The number of records of which something holds goes up by one where a slot comes to hold one. -/
theorem countRecords_place {s t : State} {i : Fin 16} {p : Record → Bool} (hbefore : slotHas s p i = false)
    (hafter : slotHas t p i = true) (hothers : ∀ j, j ≠ i → slotHas t p j = slotHas s p j) :
    countRecords t p = countRecords s p + 1 := by
  obtain ⟨before, after, hsplit⟩ := List.append_of_mem (mem_allSlots i)
  have hnodup : (before ++ i :: after).Nodup := hsplit ▸ (by decide : allSlots.Nodup)
  have hnot : i ∉ before ∧ i ∉ after := by
    rw [List.nodup_append, List.nodup_cons] at hnodup
    obtain ⟨-, ⟨hafter, -⟩, hdisjoint⟩ := hnodup
    exact ⟨fun h => hdisjoint i h i List.mem_cons_self rfl, hafter⟩
  have hsame (l : List (Fin 16)) (hl : i ∉ l) : l.filter (slotHas t p) = l.filter (slotHas s p) :=
    List.filter_congr fun j hj => hothers j fun e => hl (e ▸ hj)
  unfold countRecords
  rw [hsplit]
  simp only [List.filter_append, List.filter_cons, hbefore, hafter, hsame _ hnot.1, hsame _ hnot.2, List.length_append]
  simp
  omega

theorem serialGood_iff {serial : List Byte} :
    serialGood serial = true ↔
      1 ≤ serial.length ∧ serial.length ≤ 20 ∧ ∀ b ∈ serial, 0x21 ≤ b.toNat ∧ b.toNat ≤ 0x7E := by
  simp [serialGood, and_assoc]

section
variable {serial : List Byte} {recipe : Byte} {s : State} {i : Fin 16} (hmode : s.mode.mode ≠ .halt)
  (hserial : serialGood serial = true) (hrecipe : recipeValid s.store recipe.toNat = true) (hempty : emptySlot s = some i)
include hmode hserial hrecipe hempty

/-- INDUCT past its first four checks, with a record that holds the serial (R147). -/
theorem inductDecide_duplicate {j : Fin 16} (hold : (oldestSlot s fun r => r.serial == serial && !collected r) = some j) :
    inductDecide serial recipe s = (⟨.duplicate, [byte j.val]⟩, s) := by
  unfold inductDecide
  simp only [hmode, hserial, hrecipe, hempty, hold, if_false, Bool.not_true, Bool.false_eq_true]

/-- INDUCT past its first five checks (R147). -/
theorem inductDecide_free (hold : (oldestSlot s fun r => r.serial == serial && !collected r) = none) :
    inductDecide serial recipe s =
      if 3 < nextRetest s serial then (plain .retest, s)
      else
        (⟨.ok, [byte i.val] ++ be16 s.queue.nextSeq.toNat ++ [byte (nextRetest s serial)]⟩,
          inductRecord i (newRecord serial recipe.toNat (nextRetest s serial) s.queue.nextSeq) s) := by
  unfold inductDecide
  simp only [hmode, hserial, hrecipe, hempty, hold, if_false, Bool.not_true, Bool.false_eq_true]

end

/-- No record holds the serial that is not collected (R147). -/
theorem oldest_uncollected_none {serial : List Byte} {s : State}
    (h : ∀ j r, recordAt s j = some r → r.serial = serial → r.state = .decided ∧ r.released = true) :
    (oldestSlot s fun r => r.serial == serial && !collected r) = none := by
  refine oldestSlot_eq_none.mpr fun j r hr => ?_
  by_cases hserial : r.serial = serial
  · obtain ⟨hstate, hreleased⟩ := h j r hr hserial
    simp [collected, hstate, hreleased]
  · simp [hserial]

theorem inductRecord_queue (i : Fin 16) (r : Record) (s : State) :
    (inductRecord i r s).queue = ⟨s.queue.slots.set i (some r), s.queue.nextSeq + 1⟩ := by
  unfold inductRecord
  dsimp only
  split <;> simp

theorem recordAt_inductRecord (i j : Fin 16) (r : Record) (s : State) :
    recordAt (inductRecord i r s) j = if j = i then some r else recordAt s j := by
  rw [recordAt_congr (s := s.withQueue ⟨s.queue.slots.set i (some r), s.queue.nextSeq + 1⟩) (inductRecord_queue i r s),
    recordAt_withSlot]

/-- The sixteenth record raises QUEUE FULL (R145). -/
theorem inductRecord_eq {i : Fin 16} (r : Record) {s : State} (hempty : recordAt s i = none) :
    inductRecord i r s =
      (let t := s.withQueue ⟨s.queue.slots.set i (some r), s.queue.nextSeq + 1⟩
      if presentCount s = 15 then raise (.queueFull i) t else t) := by
  have hcount : presentCount (s.withQueue ⟨s.queue.slots.set i (some r), s.queue.nextSeq + 1⟩) = presentCount s + 1 := by
    refine countRecords_place (i := i) ?_ ?_ fun j hj => ?_
    · simp [slotHas, hempty]
    · exact slotHas_iff.mpr ⟨r, by rw [recordAt_withSlot, if_pos rfl], rfl⟩
    · simp only [slotHas, recordAt_withSlot, if_neg hj]
  unfold inductRecord
  dsimp only
  have hsixteen : presentCount s + 1 = 16 ↔ presentCount s = 15 := by omega
  rw [hcount]
  simp only [hsixteen]

/-- Settles O36: the record takes the empty slot, and the count of records goes up by one. -/
theorem inductPlaces : Obligations.InductPlaces := by
  intro serial recipe s i x hopen hmode hshort hlong hbytes hx hvalid hempty hlower hothers
  have hrecipe : recipeValid s.store recipe.toNat = true := by simp [recipeValid, recipeAt, hx, hvalid]
  have hnew := oldest_uncollected_none (serial := serial) (s := s) fun j r hr hserial =>
    ⟨(hothers j r hr hserial).1, (hothers j r hr hserial).2.1⟩
  obtain ⟨habove, hattained⟩ := nextRetest_spec s serial
  have hretest : ¬3 < nextRetest s serial := by
    intro hmany
    obtain ⟨j, r, hr, hserial, hn⟩ := hattained (by omega)
    have hlow := (hothers j r hr hserial).2.2
    omega
  have hexec : exec (.induct .line serial recipe) s =
      .next (reply .line ⟨.ok, [byte i.val] ++ be16 s.queue.nextSeq.toNat ++ [byte (nextRetest s serial)]⟩
        (inductRecord i (newRecord serial recipe.toNat (nextRetest s serial) s.queue.nextSeq) s)) := by
    rw [exec_induct hopen, inductDecide_free hmode (serialGood_iff.mpr ⟨hshort, hlong, hbytes⟩) hrecipe
      (emptySlot_eq_some hempty hlower) hnew, if_neg hretest]
  refine ⟨_, nextRetest s serial, hexec, ?_, ?_, ?_, ?_, ?_, habove, hattained, fun hfull q hq => ?_, fun hfull => ?_⟩
  · rw [inductRecord_eq _ hempty]
    dsimp only
    split <;> rfl
  · exact (recordAt_inductRecord i i _ s).trans (if_pos rfl)
  · exact fun j hj => (recordAt_inductRecord i j _ s).trans (if_neg hj)
  · exact congrArg RecordQueue.nextSeq (inductRecord_queue i _ s)
  · rw [inductRecord_eq _ hempty]
    dsimp only
    split <;> rfl
  · rw [inductRecord_eq _ hempty, if_pos hfull]
    exact (mark_raise ..).trans (if_pos ⟨rfl, hq⟩)
  · rw [inductRecord_eq _ hempty, if_neg hfull]
    rfl

/-! ## START's refusals -/

theorem startDecide_of_ready {s : State} (hmode : s.mode.mode = .ready) {i : Fin 16} {r : Record}
    (hi : oldestSlot s (fun r => r.state == .queued) = some i) (hr : recordAt s i = some r) :
    startDecide s = if s.zero.refValid = false then (plain .zero, s) else startRecipe i r s := by
  unfold startDecide
  simp only [hmode, hi, hr, reduceCtorEq, if_false, ne_eq, not_true_eq_false]
  cases s.zero.refValid <;> rfl

theorem startRecipe_of_invalid {i : Fin 16} {r : Record} {s : State} (h : recipeValid s.store r.recipe = false) :
    startRecipe i r s = (plain .recipe, s) := by
  unfold recipeValid at h
  unfold startRecipe
  split at h <;> simp_all

theorem startRecipe_of_valid {i : Fin 16} {r : Record} {x : Recipe} {s : State}
    (hx : s.store.recipes[r.recipe]? = some x) (hvalid : x.valid = true) :
    (∀ f, firstFailure (patchedCopy s.store r.recipe x.items) = some f →
      startRecipe i r s = (startFailure s.store r.recipe f, s)) ∧
      (firstFailure (patchedCopy s.store r.recipe x.items) = none →
        startRecipe i r s = (recordReply i r, startTest i (patchedCopy s.store r.recipe x.items) s)) := by
  have hat : recipeAt s.store r.recipe = some x := hx
  unfold startRecipe
  constructor
  · intro f hf
    simp [hat, hvalid, hf]
  · intro hf
    simp [hat, hvalid, hf]

/-- Settles O37: the checks stand in the order of the rules, and a refusal answers alone. -/
theorem lineCommandsRefused : Obligations.LineCommandsRefused := by
  refine ⟨fun serial recipe s hopen => ?_, fun s hopen => ?_⟩
  · rw [exec_induct hopen]
    refine ⟨fun hmode => ?_, fun hmode hbad => ?_, fun hmode hserial hrecipe => ?_, fun hmode hserial hrecipe hfull => ?_,
      fun hmode hserial hrecipe ⟨i, hi⟩ => ?_⟩
    · simp [inductDecide, hmode, plain]
    · have hserial : serialGood serial = false := by
        rw [← Bool.not_eq_true, serialGood_iff]
        rintro ⟨hshort, hlong, hbytes⟩
        rcases hbad with rfl | hlen | ⟨b, hb, hrange⟩
        · simp at hshort
        · omega
        · have hgood := hbytes b hb
          omega
      simp [inductDecide, hmode, hserial, plain]
    · simp [inductDecide, hmode, hserial, hrecipe, plain]
    · simp [inductDecide, hmode, hserial, hrecipe, emptySlot_eq_none.mpr hfull, plain]
    · obtain ⟨j, hempty⟩ : ∃ j, emptySlot s = some j := by
        refine Option.ne_none_iff_exists'.mp fun hnone => ?_
        exact emptySlot_eq_none.mp hnone i hi
      refine ⟨fun k hk => ?_, fun hcollected hthree => ?_⟩
      · rw [inductDecide_duplicate hmode hserial hrecipe hempty hk]
      · obtain ⟨k, r, hr, hsame, hretest⟩ := hthree
        have habove := (nextRetest_spec s serial).1 k r hr hsame
        rw [inductDecide_free hmode hserial hrecipe hempty (oldest_uncollected_none hcollected), if_pos (by omega)]
        rfl
  · rw [exec_start hopen]
    refine ⟨fun hmode => ?_, fun hhalt hmode => ?_, fun hmode => ⟨fun hnone => ?_, fun i r hi hr => ?_⟩⟩
    · simp [startDecide, hmode, plain]
    · simp [startDecide, hhalt, hmode, plain]
    · simp [startDecide, hmode, hnone, plain]
    · rw [startDecide_of_ready hmode hi hr]
      refine ⟨fun hzero => ?_, fun hzero hinvalid => ?_, fun x f hzero hx hvalid hf => ?_⟩
      · rw [if_pos hzero]
        rfl
      · rw [if_neg (by simp [hzero]), startRecipe_of_invalid hinvalid]
        rfl
      · rw [if_neg (by simp [hzero]), (startRecipe_of_valid hx hvalid).1 f hf]
        refine ⟨fun e he => ?_, fun hnone => ?_⟩
        · simp [startFailure, he]
        · simp [startFailure, hnone]

/-! ## VERDICT, ARCHIVE and RECORD READ -/

theorem modifyRecord_nextSeq (i : Fin 16) (f : Record → Record) (s : State) :
    (modifyRecord i f s).queue.nextSeq = s.queue.nextSeq := by
  unfold modifyRecord
  split <;> simp

/-- A collected record is marked, or removed where the other side has collected it already. -/
theorem collect_spec (i : Fin 16) (r : Record) (f : Record → Record) (gone : Bool) (p : Port) (answer : Reply) {s : State}
    (hr : recordAt s i = some r) :
    (let t := reply p answer (if gone then removeRecord i s else modifyRecord i f s)
    t = (s.withQueue t.queue).withPorts t.ports ∧ t.queue.nextSeq = s.queue.nextSeq ∧
      recordAt t i = (if gone then none else some (f r)) ∧ (∀ j, j ≠ i → recordAt t j = recordAt s j) ∧
      t.ports = s.ports.set p ⟨answer, .idle⟩) := by
  cases gone with
  | true =>
    refine ⟨rfl, rfl, (recordAt_removeRecord i i s).trans (if_pos rfl), fun j hj => ?_, rfl⟩
    exact (recordAt_removeRecord i j s).trans (if_neg hj)
  | false =>
    refine ⟨?_, modifyRecord_nextSeq i f s, ?_, fun j hj => ?_, ?_⟩
    · rw [if_neg Bool.false_ne_true, modifyRecord, hr]
      rfl
    · refine (recordAt_modifyRecord i i f s).trans ?_
      rw [if_pos rfl, hr]
      rfl
    · exact (recordAt_modifyRecord i j f s).trans (if_neg hj)
    · simp [reply]

/-- Settles O41: both commands mark a decided record or remove it. -/
theorem collectionMarks : Obligations.CollectionMarks := by
  refine ⟨fun s hopen => ⟨fun hnone => ?_, fun i r hi hr => ?_⟩, fun slot s hopen => ⟨fun hslot => ?_, fun i hi =>
    ⟨fun hr => ?_, fun r hr => ⟨fun hstate => ?_, fun hstate => ?_⟩⟩⟩⟩
  · have hnone : oldestSlot s uncollected = none := hnone
    simp [exec_verdict hopen, verdictDecide, hnone, plain]
  · have hi : oldestSlot s uncollected = some i := hi
    refine ⟨_, exec_verdict hopen, ?_⟩
    simp only [verdictDecide, hi, hr]
    exact collect_spec i r (fun r => { r with released := true }) r.archived .line (verdictReply i r) hr
  · simp [exec_archive hopen, archiveDecide, slotOf_of_le hslot, plain]
  · simp [exec_archive hopen, archiveDecide, slotOf_of_val hi, hr, plain]
  · simp [exec_archive hopen, archiveDecide, slotOf_of_val hi, hr, hstate, plain]
  · have harchive : archiveDecide slot s =
        (plain .ok, if r.released then removeRecord i s else modifyRecord i (fun r => { r with archived := true }) s) := by
      simp [archiveDecide, slotOf_of_val hi, hr, hstate]
    refine ⟨_, exec_archive hopen slot, ?_⟩
    rw [harchive]
    exact collect_spec i r (fun r => { r with archived := true }) r.released .cell (plain .ok) hr

/-- Settles O42: the checks of R156 in their order, and the line port's right by the section. -/
theorem recordReadChunks : Obligations.RecordReadChunks := by
  refine ⟨fun slot sect chunk s hopen => ?_, fun slot sect chunk s hopen hsect => ?_⟩
  · rw [exec_recordRead_cell hopen]
    refine ⟨fun hbad => ?_, fun i hi hsect => ?_⟩
    · by_cases hslot : 16 ≤ slot.toNat
      · simp [recordReadDecide, slotOf_of_le hslot, plain]
      · have hsect : 4 < sect.toNat := hbad.resolve_left hslot
        unfold recordReadDecide
        split <;> simp [hsect, plain]
    · have hsect : ¬4 < sect.toNat := by omega
      refine ⟨fun hr => ?_, fun r hr => ⟨fun hnone => ?_, fun bs hbs => ⟨fun hend => ?_, fun hend => ?_⟩⟩⟩
      · simp [recordReadDecide, slotOf_of_val hi, hsect, hr, plain]
      · simp [recordReadDecide, slotOf_of_val hi, hsect, hr, hnone, plain]
      · simp [recordReadDecide, slotOf_of_val hi, hsect, hr, hbs, hend, plain]
      · simp [recordReadDecide, slotOf_of_val hi, hsect, hr, hbs, Nat.not_le.mpr hend, chunkBytes]
  · have hright : mayRead .line sect.toNat = false := by
      simp only [mayRead, Bool.or_eq_false_iff, beq_eq_false_iff_ne]
      omega
    have hframe : (s.ports.get .line).frame ≠ .discarded := hopen
    have hexec : exec (.recordRead .line slot sect chunk) s =
        .next (portRequest .line .recordRead (mayRead .line sect.toNat) (recordReadDecide slot sect chunk) s) := rfl
    rw [hexec, hright, portRequest, if_neg hframe, Bool.and_false, if_neg Bool.false_ne_true]
    rfl

end Sys2Proof.Machine
end


section
/-! PROOF. Frames (R158 to R161): what a port sends, and what the frame end does with the bits received. -/

namespace Sys2Proof.Machine

/-! ## Bits and bytes -/

theorem ofBool_bits (b : Byte) :
    BitVec.ofBool (b.getLsbD 7) ++ BitVec.ofBool (b.getLsbD 6) ++ BitVec.ofBool (b.getLsbD 5) ++
      BitVec.ofBool (b.getLsbD 4) ++ BitVec.ofBool (b.getLsbD 3) ++ BitVec.ofBool (b.getLsbD 2) ++
      BitVec.ofBool (b.getLsbD 1) ++ BitVec.ofBool (b.getLsbD 0) = b := by
  revert b; decide +kernel

theorem bytesOfBits_bitsOfByte (b : Byte) (rest : List Bool) :
    bytesOfBits (bitsOfByte b ++ rest) = b :: bytesOfBits rest :=
  congrArg (· :: bytesOfBits rest) (ofBool_bits b)

/-- The bits of bytes spell the bytes again. -/
theorem bytesOfBits_bitsOfBytes (bs : List Byte) : bytesOfBits (bitsOfBytes bs) = bs := by
  induction bs with
  | nil => rfl
  | cons b bs ih =>
    rw [bitsOfBytes, List.flatMap_cons, bytesOfBits_bitsOfByte]
    exact congrArg (b :: ·) ih

theorem bitsOfBytes_length (bs : List Byte) : (bitsOfBytes bs).length = 8 * bs.length := by
  induction bs with
  | nil => rfl
  | cons b bs ih =>
    rw [bitsOfBytes, List.flatMap_cons, List.length_append, ← bitsOfBytes, ih, List.length_cons]
    simp only [bitsOfByte, List.length_cons, List.length_nil]
    omega

/-! ## The judgement of a frame -/

/-- The judgement of a frame's bytes (R160). -/
def judgeBytes : List Byte → FrameContent
  | code :: n :: rest => if 60 < n.toNat ∨ rest.length < n.toNat then .frameError else .request code (rest.take n.toNat)
  | _ => .frameError

/-- The bits of at least one byte are judged by the bytes. -/
theorem judgeFrame_bitsOfBytes {bs : List Byte} (h : bs ≠ []) : judgeFrame (bitsOfBytes bs) = judgeBytes bs := by
  have hlen := bitsOfBytes_length bs
  have hpos : bs.length ≠ 0 := fun e => h (List.length_eq_zero_iff.mp e)
  have hne : bitsOfBytes bs ≠ [] := by
    intro e
    rw [e, List.length_nil] at hlen
    omega
  have hwhole : ¬(bitsOfBytes bs).length % 8 ≠ 0 := by omega
  rw [judgeFrame, if_neg hne, if_neg hwhole, bytesOfBits_bitsOfBytes]
  rfl

/-- Bits that fill no whole byte (R160). -/
theorem judgeFrame_partial {bits : List Bool} (h : bits.length % 8 ≠ 0) : judgeFrame bits = .frameError := by
  have hne : bits ≠ [] := by rintro rfl; simp at h
  rw [judgeFrame, if_neg hne, if_pos h]

theorem judgeFrame_single (b : Byte) : judgeFrame (bitsOfByte b) = .frameError := by
  have hbits : bitsOfByte b = bitsOfBytes [b] := by simp [bitsOfBytes]
  rw [hbits, judgeFrame_bitsOfBytes (by simp)]
  rfl

theorem judgeFrame_bad {code n : Byte} {rest : List Byte} (h : 60 < n.toNat ∨ rest.length < n.toNat) :
    judgeFrame (bitsOfBytes (code :: n :: rest)) = .frameError := by
  rw [judgeFrame_bitsOfBytes (by simp)]
  exact if_pos h

theorem judgeFrame_request {code n : Byte} {rest : List Byte} (hn : n.toNat ≤ 60) (hrest : n.toNat ≤ rest.length) :
    judgeFrame (bitsOfBytes (code :: n :: rest)) = .request code (rest.take n.toNat) := by
  rw [judgeFrame_bitsOfBytes (by simp)]
  exact if_neg (by omega)

/-! ## The frame end -/

section
variable {p : Port} {s : State} (hopen : PortOpen p s) (hbits : (s.ports.get p).frame.bits = [])
include hopen hbits

theorem exec_frameEnd_error {bits : List Bool} (h : judgeFrame bits = .frameError) :
    exec (.frameEnd p bits) s = .next (reply p ⟨.frame, []⟩ s) := by
  have hframe : (s.ports.get p).frame ≠ .discarded := hopen
  have hexec : exec (.frameEnd p bits) s = .next (frameEnd p bits s) := rfl
  rw [hexec, frameEnd, if_neg hframe, hbits, List.nil_append, h]
  rfl

theorem exec_frameEnd_none :
    exec (.frameEnd p []) s = .next (s.withPorts (s.ports.set p ⟨(s.ports.get p).held, .idle⟩)) := by
  have hframe : (s.ports.get p).frame ≠ .discarded := hopen
  have hexec : exec (.frameEnd p []) s = .next (frameEnd p [] s) := rfl
  rw [hexec, frameEnd, if_neg hframe, hbits]
  rfl

theorem exec_frameEnd_request {bits : List Bool} {code : Byte} {payload : List Byte}
    (h : judgeFrame bits = .request code payload) :
    exec (.frameEnd p bits) s = .next (dispatch p code payload s) := by
  have hframe : (s.ports.get p).frame ≠ .discarded := hopen
  have hexec : exec (.frameEnd p bits) s = .next (frameEnd p bits s) := rfl
  rw [hexec, frameEnd, if_neg hframe, hbits, List.nil_append, h]

end

/-! ## The dispatch -/

theorem mem_allCommands (c : Command) : c ∈ allCommands := by cases c <;> decide

theorem commandOfCode_code (c : Command) : commandOfCode c.code = some c := by cases c <;> rfl

theorem commandOfCode_eq_none {code : Byte} (h : ∀ c, Command.code c ≠ code) : commandOfCode code = none := by
  simp [commandOfCode, List.find?_eq_none, h]

theorem dispatch_unknown {code : Byte} (h : ∀ c, Command.code c ≠ code) (p : Port) (payload : List Byte) (s : State) :
    dispatch p code payload s = reply p ⟨.unknown, []⟩ s := by
  simp [dispatch, commandOfCode_eq_none h, plain]

/-- What a payload spells runs as the command itself. -/
theorem exec_of_decodeRequest {p : Port} {c : Command} {payload : List Byte} {i : Instr}
    (h : decodeRequest p c payload = some i) (s : State) : exec i s = .next (requestEffect i s) := by
  unfold decodeRequest at h
  cases c with
  | start | verdict | abort | status | event | faultRead | clearFaults | faultReadAndClear | cellClear | zeroCapture
  | zeroCheck | settingsRead | recordRead | archive | recipeRead | recipeValidate | patchWrite | patchRead
  | integrityLogRead | spotConvert | settingsWrite | routeWrite =>
    dsimp only at h
    split at h
    · cases h
      rfl
    · cases h
  | mode =>
    dsimp only at h
    (repeat' split at h) <;> cases h <;> rfl
  | induct =>
    cases payload with
    | nil => cases h
    | cons n rest =>
      dsimp only at h
      split at h
      · cases h
        rfl
      · cases h
  | recipeWrite =>
    rcases payload with _ | ⟨recipe, _ | ⟨sect, _ | ⟨index, _ | ⟨field, rest⟩⟩⟩⟩
    case cons.cons.cons.cons =>
      obtain ⟨values, -, rfl⟩ := Option.map_eq_some_iff.mp h
      rfl
    all_goals cases h

/-- Settles O52: the bits spell the frame's bytes, and the dispatch goes by the code and the payload. -/
theorem frameEndRunsRequest : Obligations.FrameEndRunsRequest := by
  intro p c payload extra s hopen hbits hlength
  have hn : (BitVec.ofNat 8 payload.length).toNat = payload.length := by
    rw [BitVec.toNat_ofNat]
    omega
  have hframe : judgeFrame (bitsOfBytes ([c.code, BitVec.ofNat 8 payload.length] ++ payload ++ extra)) =
      .request c.code payload := by
    refine (judgeFrame_request (rest := payload ++ extra) (by omega) ?_).trans ?_
    · rw [hn, List.length_append]
      omega
    · rw [hn, List.take_left]
  dsimp only
  rw [exec_frameEnd_request hopen hbits hframe]
  simp only [dispatch, commandOfCode_code]
  refine ⟨fun hrefused => ?_, fun hright => ⟨fun hnone => ?_, fun i hi => ?_⟩⟩
  · simp [hrefused, refuseAccess]
  · simp [hright, hnone, plain]
  · simp [hright, hi, exec_of_decodeRequest hi]

/-! ## What a port sends -/

theorem sentByte_assembling {s : State} {p : Port} {st : Byte} {r : Reply} {bits : List Bool}
    (h : (s.ports.get p).frame = .assembling st r bits) (k : Nat) :
    sentByte s p k = some ((frameBytes st r)[k]?.getD 0) := by
  simp [sentByte, h]

/-- The bits of a byte go out after the clock edge of each, bit 7 first (R159, R170). -/
theorem dataOut_bit {s : State} {p : Port} {k j : Nat} {b : Byte} (h : sentByte s p k = some b) (hj : j < 8) :
    dataOut s p (8 * k + j + 1) = some (b.getLsbD (7 - j)) := by
  have hdiv : (8 * k + j) / 8 = k := by omega
  have hmod : (8 * k + j) % 8 = j := by omega
  simp [dataOut, hdiv, hmod, h]

/-- Settles O51: the frame end's answer is the judgement of its bits, and an unknown code's is UNKNOWN. -/
theorem framesJudged : Obligations.FramesJudged := by
  intro p s
  refine ⟨rfl, fun st r bits hframe => ?_, fun hopen hbits => ?_⟩
  · have hsent := sentByte_assembling hframe
    refine ⟨hsent 0, hsent 1, hsent 2, fun k b hb => ?_, fun k hk => ?_, ?_, fun k b hb j hj => dataOut_bit hb hj⟩
    · rw [hsent]
      simp [frameBytes, hb]
    · rw [hsent]
      simp [frameBytes, hk]
    · simp [dataOut, hsent]
  · refine ⟨exec_frameEnd_none hopen hbits, fun bits hpartial => ?_, fun b => ?_, fun code n rest hbad => ?_,
      fun code hcode => ⟨?_, fun n rest hn hrest => ?_⟩⟩
    · exact exec_frameEnd_error hopen hbits (judgeFrame_partial hpartial)
    · exact exec_frameEnd_error hopen hbits (judgeFrame_single b)
    · exact exec_frameEnd_error hopen hbits (judgeFrame_bad hbad)
    · have hframe : (s.ports.get p).frame ≠ .discarded := hopen
      have hexec : exec (.unknownCommand p code) s = .next (unknownCommand p code s) := rfl
      rw [hexec, unknownCommand, if_neg hframe, dispatch_unknown hcode]
    · rw [exec_frameEnd_request hopen hbits (judgeFrame_request hn hrest), dispatch_unknown hcode]

end Sys2Proof.Machine
end


section
/-! PROOF. Requests that answer or refuse without more: the mode requests (R8 to R12), the zero check and the converter (R127, R134, R142),
STATUS and the integrity log (R163, R133), the settings (R164). -/

namespace Sys2Proof.Machine

/-! ## Frame ends -/

theorem allowed_mode (rights : LineRights) (p : Port) : allowed rights p .mode = true := by cases p <;> rfl
theorem allowed_status (rights : LineRights) (p : Port) : allowed rights p .status = true := by cases p <;> rfl
theorem allowed_faultRead (rights : LineRights) (p : Port) : allowed rights p .faultRead = true := by cases p <;> rfl

section
variable {p : Port} {s : State} (hopen : PortOpen p s)
include hopen

theorem exec_readyRequest : exec (.readyRequest p) s = .next (reply p (readyDecide s).1 (readyDecide s).2) :=
  congrArg Host.Outcome.next (portRequest_of_open hopen (allowed_mode _ p) _)

theorem exec_idleRequest : exec (.idleRequest p) s = .next (reply p (idleDecide s).1 (idleDecide s).2) :=
  congrArg Host.Outcome.next (portRequest_of_open hopen (allowed_mode _ p) _)

theorem exec_pauseRequest (hhold : mayHold p s = true) :
    exec (.pauseRequest p) s = .next (reply p (pauseDecide s).1 (pauseDecide s).2) := by
  have hexec : exec (.pauseRequest p) s = .next (portRequest p .mode (mayHold p s) pauseDecide s) := rfl
  rw [hexec, hhold, portRequest_of_open hopen (allowed_mode _ p)]

theorem exec_resumeRequest (hhold : mayHold p s = true) :
    exec (.resumeRequest p) s = .next (reply p (resumeDecide s).1 (resumeDecide s).2) := by
  have hexec : exec (.resumeRequest p) s = .next (portRequest p .mode (mayHold p s) resumeDecide s) := rfl
  rw [hexec, hhold, portRequest_of_open hopen (allowed_mode _ p)]

/-- Outside the port's rights by its content, a request is refused with its event (R161 step 4). -/
theorem portRequest_of_noRight (c : Command) (act : State → Reply × State) :
    portRequest p c false act s = reply p ⟨.access, []⟩ (raise (.access p c) s) := by
  have hframe : (s.ports.get p).frame ≠ .discarded := hopen
  rw [portRequest, if_neg hframe, Bool.and_false, if_neg Bool.false_ne_true]
  rfl

theorem exec_status : exec (.status p) s = .next (reply p ⟨.ok, statusBytes s⟩ s) :=
  congrArg Host.Outcome.next (portRequest_of_open hopen (allowed_status _ p) _)

end

section
variable {s : State} (hopen : PortOpen .cell s)
include hopen

theorem exec_zeroCapture :
    exec (.zeroCapture .cell) s = .next (reply .cell (zeroCaptureDecide s).1 (zeroCaptureDecide s).2) :=
  congrArg Host.Outcome.next (portRequest_of_open hopen rfl _)

theorem exec_zeroCheck : exec (.zeroCheck .cell) s = .next (reply .cell (zeroCheckDecide s).1 (zeroCheckDecide s).2) :=
  congrArg Host.Outcome.next (portRequest_of_open hopen rfl _)

theorem exec_spotConvert (channel : Byte) :
    exec (.spotConvert .cell channel) s =
      .next (reply .cell (spotConvertDecide channel s).1 (spotConvertDecide channel s).2) :=
  congrArg Host.Outcome.next (portRequest_of_open hopen rfl _)

theorem exec_integrityLogRead (first : Byte) :
    exec (.integrityLogRead .cell first) s = .next (reply .cell (integrityLogReadDecide first s).1 s) :=
  (congrArg Host.Outcome.next (portRequest_of_open hopen rfl _)).trans (by rw [integrityLogReadDecide_snd])

theorem exec_settingsWrite (x : SettingsRecord) :
    exec (.settingsWrite .cell x) s =
      .next (reply .cell (settingsWriteDecide x s).1 (settingsWriteDecide x s).2) :=
  congrArg Host.Outcome.next (portRequest_of_open hopen rfl _)

theorem exec_settingsRead :
    exec (.settingsRead .cell) s = .next (reply .cell ⟨.ok, settingsBytes s ++ routeBytes s⟩ s) :=
  congrArg Host.Outcome.next (portRequest_of_open hopen rfl _)

end

/-! ## The mode requests that are refused -/

theorem allReceived_eq_false {s : State} (h : ∃ d, (s.link.drives.get d).received = false) : allReceived s = false := by
  obtain ⟨d, hd⟩ := h
  cases d <;> simp_all [allReceived, PerDrive.get]

/-- Settles O8: each request's own table of modes. -/
theorem modeRequestsRefused : Obligations.ModeRequestsRefused := by
  intro p s hopen
  refine ⟨fun hidle hbad => ?_, fun hhalt => ?_, fun hidle hhalt => ?_, fun hmode => ?_, fun hright => ⟨fun hrun => ?_,
    fun hhalt => ?_, fun hhalt hpause => ?_⟩, fun hline hright => ?_⟩
  · have hready : readyGood s = false := by
      rcases hbad with hguards | hlatch | hunheard
      · simp [readyGood, hguards]
      · simp [readyGood, hlatch]
      · simp [readyGood, allReceived_eq_false hunheard]
    simp [exec_readyRequest hopen, readyDecide, hidle, hready, plain]
  · simp [exec_readyRequest hopen, readyDecide, hhalt, plain]
  · rw [exec_readyRequest hopen]
    unfold readyDecide
    split
    · contradiction
    · contradiction
    all_goals rfl
  · rw [exec_idleRequest hopen]
    rcases hmode with hmode | hmode | hmode <;> simp [idleDecide, hmode, plain]
  · have hhold : mayHold p s = true := by cases p <;> simp_all [mayHold]
    simp [exec_pauseRequest hopen hhold, pauseDecide, hrun, plain]
  · have hhold : mayHold p s = true := by cases p <;> simp_all [mayHold]
    simp [exec_resumeRequest hopen hhold, resumeDecide, hhalt, plain]
  · have hhold : mayHold p s = true := by cases p <;> simp_all [mayHold]
    simp [exec_resumeRequest hopen hhold, resumeDecide, hhalt, hpause, plain]
  · subst hline
    have hpause : exec (.pauseRequest .line) s = .next (portRequest .line .mode s.ports.rights.hold pauseDecide s) := rfl
    have hresume : exec (.resumeRequest .line) s = .next (portRequest .line .mode s.ports.rights.hold resumeDecide s) := rfl
    rw [hpause, hresume, hright, portRequest_of_noRight hopen, portRequest_of_noRight hopen]
    exact ⟨rfl, rfl⟩

/-! ## The zero check and the converter -/

theorem betweenTests_iff {s : State} :
    betweenTests s = true ↔ (s.mode.mode = .idle ∨ s.mode.mode = .ready) ∧ ∀ i, ¬OnTest s i := by
  rw [betweenTests, Bool.and_eq_true, onTestSlot_isNone]
  simp

theorem channelOfCode_code (ch : Channel) : channelOfCode ch.code = some ch := by cases ch <;> rfl

theorem channelOfCode_eq_none {n : Nat} (h : 2 < n) : channelOfCode n = none := by
  unfold channelOfCode
  split <;> simp_all

theorem spotOutstanding_iff {a : Arbiter} :
    spotOutstanding a = true ↔ a.waiting.spot ≠ none ∨ ∃ c, a.inProgress = some c ∧ c.requester = .spot := by
  unfold spotOutstanding
  rw [Bool.or_eq_true, Option.isSome_iff_ne_none]
  refine or_congr Iff.rfl ?_
  split <;> simp_all

/-- Settles O33: the refusals in their order. -/
theorem converterCommands : Obligations.ConverterCommands := by
  refine ⟨fun s hopen => ?_, fun channel s hopen => ⟨fun hchannel => ?_, fun ch hch => ?_⟩⟩
  · rw [exec_zeroCapture hopen, exec_zeroCheck hopen]
    refine ⟨fun hmode hcheck => ?_, fun hmode => ?_, fun hmode hcheck => ?_, fun hmode htest hcheck hvalid => ?_,
      fun hbusy => ?_, fun hmode htest hcheck hvalid => ?_⟩
    · simp [zeroCaptureDecide, hmode, hcheck, plain, startCheck, Config.checkMs]
    · simp [zeroCaptureDecide, hmode, plain]
    · simp [zeroCaptureDecide, hmode, Option.isSome_iff_ne_none.mpr hcheck, plain]
    · simp [zeroCheckDecide, betweenTests_iff.mpr ⟨hmode, htest⟩, hcheck, hvalid, plain, startCheck, Config.checkMs]
    · by_cases hbetween : betweenTests s = true
      · obtain ⟨hmode, htest⟩ := betweenTests_iff.mp hbetween
        have hcheck : s.zero.check ≠ none := by
          rcases hbusy with h | ⟨i, hi⟩ | h
          · exact absurd hmode h
          · exact absurd hi (htest i)
          · exact h
        simp [zeroCheckDecide, hbetween, Option.isSome_iff_ne_none.mpr hcheck, plain]
      · simp [zeroCheckDecide, hbetween, plain]
    · simp [zeroCheckDecide, betweenTests_iff.mpr ⟨hmode, htest⟩, hcheck, hvalid, plain]
  · simp [exec_spotConvert hopen, spotConvertDecide, channelOfCode_eq_none hchannel, plain]
  · have hcode : channelOfCode channel.toNat = some ch := hch ▸ channelOfCode_code ch
    rw [exec_spotConvert hopen]
    refine ⟨fun hmasked => ?_, fun hmasked hbusy => ?_, fun hmasked hfree hother => ?_⟩
    · simp [spotConvertDecide, hcode, hmasked, plain]
    · simp [spotConvertDecide, hcode, hmasked, spotOutstanding_iff.mpr hbusy, plain]
    · have hidle : spotOutstanding s.conv = false := by
        rw [← Bool.not_eq_true, spotOutstanding_iff]
        rintro (h | ⟨c, hc, hspot⟩)
        · exact h hfree
        · exact hother c hc hspot
      simp [spotConvertDecide, hcode, hmasked, hidle, plain, request]

/-! ## Settings -/

theorem settingsGood_iff {x : SettingsRecord} :
    settingsGood x = true ↔
      10 ≤ x.ventOffset.toNat ∧ x.ventOffset.toNat ≤ 500 ∧ 1 ≤ x.tolerance.toNat ∧ x.tolerance.toNat ≤ 500 ∧
        1 ≤ x.interval.toNat ∧ x.interval.toNat ≤ 16 ∧ x.policy.toNat ≤ 1 ∧ x.classLeak.toNat ≤ 1 ∧
        x.classZero.toNat ≤ 1 ∧ x.classOil.toNat ≤ 1 ∧ x.classSpot.toNat ≤ 1 ∧ x.spotMask.toNat ≤ 1 := by
  simp [settingsGood, and_assoc]

theorem byte_eq_one_iff (b : Byte) : b = 1 ↔ b.toNat = 1 := by
  rw [← BitVec.toNat_inj]
  rfl

theorem byte_beq_one (b : Byte) : (b == 1) = (b.toNat == 1) := by
  rw [Bool.eq_iff_iff, beq_iff_eq, beq_iff_eq, byte_eq_one_iff]

theorem rightsByte_eq (x : LineRights) :
    rightsByte x = byte ((if x.hold then 1 else 0) + (if x.abort then 2 else 0) + (if x.clear then 4 else 0)) := rfl

theorem allSources_eq : allSources = List.finRange 11 := by decide

/-- Settles O49: the two checks of R164, then all settings at once. -/
theorem settingsWrittenAndRead : Obligations.SettingsWrittenAndRead := by
  refine ⟨fun x s hopen => ?_, fun s hopen => ?_⟩
  · rw [exec_settingsWrite hopen]
    refine ⟨fun hbad => ?_, fun hmode htest => ⟨fun hgood => ?_, fun hgood => ?_⟩⟩
    · have hbetween : betweenTests s = false := by
        rw [← Bool.not_eq_true, betweenTests_iff]
        rintro ⟨hmode, htest⟩
        rcases hbad with h | ⟨i, hi⟩
        · exact h hmode
        · exact htest i hi
      simp [settingsWriteDecide, hbetween, plain]
    · have hrange : settingsGood x = false := by rwa [← Bool.not_eq_true, settingsGood_iff]
      simp [settingsWriteDecide, betweenTests_iff.mpr ⟨hmode, htest⟩, hrange, plain]
    · have hrange : settingsGood x = true := settingsGood_iff.mpr hgood
      simp only [settingsWriteDecide, betweenTests_iff.mpr ⟨hmode, htest⟩, hrange, writeSettings, classOf,
        byte_eq_one_iff, byte_beq_one]
      rfl
  · rw [exec_settingsRead hopen, routeBytes, allSources_eq]
    rfl

/-! ## STATUS and the integrity log -/

theorem logBytes_length (e : LogEntry) : (logBytes e).length = 11 := rfl

theorem driveEnable_iff (s : State) :
    driveEnable s = true ↔
      (s.mode.mode = .ready ∨ s.mode.mode = .run ∨ s.mode.mode = .pause ∨ s.mode.mode = .settle) ∧
        guardsGood s.mode.guards = true := by
  rw [driveEnable, Bool.and_eq_true]
  refine and_congr ?_ Iff.rfl
  cases s.mode.mode <;> simp [Mode.active]

theorem unclampPermit_iff (s : State) :
    unclampPermit s = true ↔ s.mode.mode = .idle ∧ ∀ d, s.mode.seen.get d = true := by
  have hall : (∀ d, s.mode.seen.get d = true) ↔
      (s.mode.seen.input = true ∧ s.mode.seen.left = true) ∧ s.mode.seen.right = true :=
    ⟨fun h => ⟨⟨h .input, h .left⟩, h .right⟩, fun ⟨⟨hi, hl⟩, hr⟩ d => by cases d <;> assumption⟩
  rw [hall]
  simp [unclampPermit, and_assoc]

theorem ventOutput_iff (s : State) :
    ventOutput s = true ↔
      (s.mode.mode = .idle ∨ s.mode.mode = .settle ∨ s.mode.mode = .stop ∨ s.mode.mode = .halt) ∨
        (s.leak.phase = .idle ∨ s.leak.phase = .vent ∨ s.leak.phase = .done) ∨ s.zero.check ≠ none := by
  have hmode : s.mode.mode.vents = true ↔
      s.mode.mode = .idle ∨ s.mode.mode = .settle ∨ s.mode.mode = .stop ∨ s.mode.mode = .halt := by
    cases s.mode.mode <;> simp [Mode.vents]
  have hphase : s.leak.phase.vents = true ↔ s.leak.phase = .idle ∨ s.leak.phase = .vent ∨ s.leak.phase = .done := by
    cases s.leak.phase <;> simp [LeakPhase.vents]
  simp [ventOutput, hmode, hphase, Option.isSome_iff_ne_none, or_assoc]

theorem fillOutput_iff (s : State) :
    fillOutput s = true ↔
      s.leak.phase = .fill ∧ (s.mode.mode = .ready ∨ s.mode.mode = .run ∨ s.mode.mode = .pause) := by
  have hmode : s.mode.mode.vents = false ↔ s.mode.mode = .ready ∨ s.mode.mode = .run ∨ s.mode.mode = .pause := by
    cases s.mode.mode <;> simp [Mode.vents]
  simp [fillOutput, hmode]

theorem dlock_iff (s : State) :
    dlock s = true ↔
      (s.mode.mode = .run ∨ s.mode.mode = .pause) ∧ ∃ c, s.ctx = some c ∧ stepField c.copy c.step 7 = 1 := by
  unfold dlock
  cases s.ctx with
  | none => simp
  | some c => simp [diffLock]

/-- The bytes of a list of entries of one length, from entry to entry. -/
theorem flatMap_drop_take {α : Type} (f : α → List Byte) {n : Nat} (hf : ∀ x, (f x).length = n) (l : List α) (k : Nat)
    {x : α} (hx : l[k]? = some x) : ((l.flatMap f).drop (n * k)).take n = f x := by
  induction l generalizing k with
  | nil => simp at hx
  | cons y l ih =>
    cases k with
    | zero =>
      cases hx
      rw [Nat.mul_zero, List.drop_zero, List.flatMap_cons, ← hf x, List.take_left]
    | succ k =>
      rw [List.flatMap_cons, Nat.mul_succ, Nat.add_comm, ← List.drop_drop, ← hf y, List.drop_left]
      rw [hf y]
      exact ih k (by simpa using hx)

theorem flatMap_length {α : Type} (f : α → List Byte) {n : Nat} (hf : ∀ x, (f x).length = n) (l : List α) :
    (l.flatMap f).length = n * l.length := by
  induction l with
  | nil => simp
  | cons y l ih =>
    rw [List.flatMap_cons, List.length_append, ih, hf, List.length_cons]
    ring

/-- Settles O46: the layouts byte by byte, and each output's rule. -/
theorem snapshotsAnswer : Obligations.SnapshotsAnswer := by
  refine ⟨fun p s hopen => ?_, fun s => ?_, fun first s hopen => ⟨fun hfirst => ?_, fun hfirst => ?_⟩⟩
  · rw [exec_status hopen, statusBytes]
    cases htarget : s.mode.target with
    | none => rfl
    | some x => cases x <;> rfl
  · exact ⟨driveEnable_iff s, unclampPermit_iff s, ventOutput_iff s, fillOutput_iff s, dlock_iff s⟩
  · simp [exec_integrityLogRead hopen, integrityLogReadDecide, hfirst, plain]
  · refine ⟨((s.zero.log.drop first.toNat).take 5).flatMap logBytes, ?_, ?_, fun k e hk he => ?_⟩
    · simp [exec_integrityLogRead hopen, integrityLogReadDecide, Nat.not_lt.mpr hfirst]
    · rw [flatMap_length logBytes logBytes_length, List.length_take, List.length_drop]
    · refine flatMap_drop_take logBytes logBytes_length _ k ?_
      rw [List.getElem?_take_of_lt hk, List.getElem?_drop]
      exact he

end Sys2Proof.Machine
end


section
/-! PROOF. The state after device reset (R1), and a guard arrival in an inactive mode (R2). -/

namespace Sys2Proof.Machine

/-! ## Guard arrivals -/

theorem driveEnable_of_inactive {s : State} (h : s.mode.mode.active = false) : driveEnable s = false := by
  simp [driveEnable, h]

theorem followEnable_of_inactive {s : State} (h : s.mode.mode.active = false) : followEnable false s = s := by
  simp [followEnable, driveEnable_of_inactive h]

theorem guardLatch_of_inactive (loss : Option (LatchKind × Nat)) {s : State} (h : s.mode.mode.active = false) :
    guardLatch loss s = s := by
  unfold guardLatch
  split <;> simp [h]

theorem guardChanged_iff (a b : GuardLevels) :
    guardChanged a b = true ↔ a.estop ≠ b.estop ∨ a.door ≠ b.door ∨ clamped a ≠ clamped b := by
  simp [guardChanged, or_assoc]

/-- In IDLE, STOP and HALT a guard arrival moves no output and sets no latch. -/
theorem guardInputChange_of_inactive (i : GuardInput) (high : Bool) {s : State} (h : s.mode.mode.active = false) :
    guardInputChange i high s =
      (let new := setGuard s.mode.guards i high
      let t := s.withMode { s.mode with guards := new }
      if guardChanged s.mode.guards new then raise (.guard new) t else t) := by
  have hmoved : (s.withMode { s.mode with guards := setGuard s.mode.guards i high }).mode.mode.active = false := h
  unfold guardInputChange
  dsimp only
  rw [driveEnable_of_inactive h, followEnable_of_inactive hmoved, guardLatch_of_inactive]
  split <;> exact h

/-- Settles O3: the outputs and the latches wait for an active mode, so that the event alone is left. -/
theorem guardChangeRecorded : Obligations.GuardChangeRecorded := by
  intro i high s hinactive
  have hexec : exec (.guardInputChange i high) s = .next (guardInputChange i high s) := rfl
  refine ⟨_, hexec, ?_⟩
  rw [guardInputChange_of_inactive i high hinactive]
  have hchange := guardChanged_iff s.mode.guards (setGuard s.mode.guards i high)
  dsimp only
  split
  case isTrue hchanged =>
    refine ⟨rfl, rfl, fun k p => (mark_raise ..).trans (if_congr ?_ rfl rfl)⟩
    exact and_congr Iff.rfl (iff_self_and.mpr fun _ => hchange.mp hchanged)
  case isFalse hsame =>
    exact ⟨rfl, rfl, fun k p => (if_neg fun ⟨_, _, hchanged⟩ => hsame (hchange.mpr hchanged)).symm⟩

/-! ## Device reset -/

theorem item_blankItems (i : Fin 436) :
    item blankItems i.val = if 4 ≤ i.val ∧ i.val < 292 ∧ (i.val - 4) % 12 = 10 then 255 else 0 := by
  revert i; decide +kernel

theorem recordAt_resetWith (g : GuardLevels) (i : Fin 16) : recordAt (State.resetWith g) i = none := by
  simp [recordAt, State.resetWith, resetQueue]

theorem mark_resetWith (g : GuardLevels) (i : Fin 11) (p : Port) : mark (State.resetWith g) i p = none := by
  cases p <;> simp [mark, State.resetWith, resetEvents, EventUnit.marks]

theorem latchValue_resetWith (g : GuardLevels) (k : LatchKind) : latchValue (State.resetWith g) k = none := by
  simp [latchValue, State.resetWith, resetSup]

theorem discard_ne_assembling (f : Frame) (st : Byte) (r : Reply) (bits : List Bool) :
    f.discard ≠ .assembling st r bits := by
  cases f <;> simp [Frame.discard]

/-- Settles O2: the reset columns block by block, and DEVICE_RESET's own definition. -/
theorem resetValues : Obligations.ResetValues := by
  constructor
  · refine ⟨rfl, rfl, rfl, rfl, rfl, fun d => by cases d <;> rfl, fun n => ⟨?_, fun i => ?_⟩, fun n => ?_, ?_⟩
    · simp [State.reset, State.resetWith, resetStore]
    · rw [← item_blankItems i]
      simp [State.reset, State.resetWith, resetStore]
    · simp [State.reset, State.resetWith, resetStore]
    refine ⟨rfl, rfl, rfl, rfl, fun d => by cases d <;> rfl, latchValue_resetWith _, fun m => by cases m <;> rfl, ?_⟩
    refine ⟨rfl, rfl, rfl, rfl, rfl, rfl, rfl, rfl, rfl, rfl, ?_⟩
    refine ⟨rfl, rfl, rfl, rfl, rfl, rfl, rfl, rfl, rfl, rfl, rfl, rfl, rfl, rfl, rfl, ?_⟩
    refine ⟨rfl, rfl, rfl, rfl, rfl, rfl, rfl, rfl, rfl, rfl, rfl, rfl, rfl, ?_⟩
    refine ⟨fun r => by cases r <;> rfl, rfl, rfl, rfl, rfl, rfl, rfl, rfl, fun r => by cases r <;> rfl, ?_⟩
    exact ⟨recordAt_resetWith _, rfl, fun p => by cases p <;> rfl, rfl, rfl, mark_resetWith _, rfl, rfl, rfl⟩
  · intro g s
    refine ⟨deviceReset g s, rfl, rfl, rfl, rfl, recordAt_resetWith g, mark_resetWith g, rfl, fun p => ⟨?_, ?_, ?_⟩⟩
    · cases p <;> rfl
    · intro hidle
      have hdiscard : ((deviceReset g s).ports.get p).frame = (s.ports.get p).frame.discard := by cases p <;> rfl
      rw [hdiscard, hidle]
      rfl
    · have hdiscard : ((deviceReset g s).ports.get p).frame = (s.ports.get p).frame.discard := by cases p <;> rfl
      rw [hdiscard]
      exact discard_ne_assembling _

end Sys2Proof.Machine
end


section
/-! SUPPORT. Two states with equal fields, and what a post does to the records. -/

namespace Sys2Proof.Machine

/-- Two states that agree in every field are equal. -/
theorem State.eq_of_fields {s t : State} (hmode : s.mode = t.mode) (hstore : s.store = t.store)
    (hdemand : s.demand = t.demand) (hctx : s.ctx = t.ctx) (hlink : s.link = t.link) (hsup : s.sup = t.sup)
    (hnoise : s.noise = t.noise) (hleak : s.leak = t.leak) (hzero : s.zero = t.zero) (hconv : s.conv = t.conv)
    (hqueue : s.queue = t.queue) (hports : s.ports = t.ports) (hevents : s.events = t.events)
    (hticks : s.ticks = t.ticks) (horders : s.orders = t.orders) (hpending : s.pending = t.pending) : s = t := by
  cases s
  cases t
  simp_all

theorem recordAt_post (f : Record → Record) (s : State) (i : Fin 16) :
    recordAt (post f s) i = if onTestSlot s = some i then (recordAt s i).map f else recordAt s i := by
  cases h : onTestSlot s with
  | none => simp [post_none h]
  | some j =>
    rw [post_some h, recordAt_modifyRecord]
    simp only [Option.some.injEq, eq_comm]

theorem recordAt_post_of_queue {s t : State} (hqueue : t.queue = s.queue) (f : Record → Record) (i : Fin 16) :
    recordAt (post f t) i = if onTestSlot s = some i then (recordAt s i).map f else recordAt s i := by
  rw [recordAt_post, onTestSlot_congr hqueue, recordAt_congr hqueue]

theorem post_nextSeq (f : Record → Record) (s : State) : (post f s).queue.nextSeq = s.queue.nextSeq := by
  cases h : onTestSlot s with
  | none => rw [post_none h]
  | some i => rw [post_some h, modifyRecord_nextSeq]

theorem post_congr (f : Record → Record) {s t : State} (h : t.queue = s.queue) :
    (post f t).queue = (post f s).queue := by
  simp only [post, modifyRecord, onTestSlot_congr h, recordAt_congr h]
  split
  · split
    · simp [h]
    · exact h
  · exact h

/-- A post that keeps the records' states keeps the slot of the record ON TEST. -/
theorem onTestSlot_post {f : Record → Record} (hf : ∀ r, (f r).state = r.state) (s : State) :
    onTestSlot (post f s) = onTestSlot s := by
  refine congrArg (fun p => allSlots.find? p) (funext fun i => ?_)
  rw [Bool.eq_iff_iff, slotHas_iff, slotHas_iff, recordAt_post]
  cases recordAt s i <;> split <;> simp [hf]

/-! ## The fault list after several entries (R151) -/

/-- A record after entries appended one after the other. -/
def appendEntries (l : List FaultEntry) (r : Record) : Record := l.foldl (fun r e => appendEntry e r) r

theorem appendEntry_noise (e : FaultEntry) (r : Record) (x : Option NoiseSection) :
    appendEntry e { r with noise := x } = { appendEntry e r with noise := x } := by
  by_cases h : r.faults.length < 6 <;> simp [appendEntry, h]

theorem appendEntries_noise (l : List FaultEntry) (x : Option NoiseSection) :
    ∀ r : Record, appendEntries l { r with noise := x } = { appendEntries l r with noise := x } := by
  induction l with
  | nil => exact fun r => rfl
  | cons e l ih =>
    intro r
    change appendEntries l (appendEntry e { r with noise := x }) = _
    rw [appendEntry_noise, ih]
    rfl

theorem appendEntries_append (l m : List FaultEntry) (r : Record) :
    appendEntries (l ++ m) r = appendEntries m (appendEntries l r) := by
  simp [appendEntries]

theorem appendEntries_frame (l : List FaultEntry) :
    ∀ r, appendEntries l r =
      { r with faults := (appendEntries l r).faults, overflow := (appendEntries l r).overflow } := by
  induction l with
  | nil => exact fun r => rfl
  | cons e l ih =>
    intro r
    have hunfold : appendEntries (e :: l) r = appendEntries l (appendEntry e r) := rfl
    rw [hunfold]
    by_cases hroom : r.faults.length < 6
    · rw [appendEntry_room hroom]
      exact ih _
    · rw [appendEntry, if_neg hroom]
      exact ih _

/-- Entries of axle class fill the list to six entries, and one too many sets the overflow mark AXLE. -/
theorem appendEntries_axle {l : List FaultEntry} (haxle : ∀ e ∈ l, e.kind.axle = true) :
    ∀ {r : Record}, r.faults.length ≤ 6 →
      (appendEntries l r).faults = (r.faults ++ l).take 6 ∧
      (appendEntries l r).overflow = if r.faults.length + l.length ≤ 6 then r.overflow else .axle := by
  induction l with
  | nil =>
    intro r hr
    simp [appendEntries, hr, List.take_of_length_le]
  | cons e l ih =>
    intro r hr
    have htail := fun x hx => haxle x (List.mem_cons_of_mem e hx)
    have hunfold : appendEntries (e :: l) r = appendEntries l (appendEntry e r) := rfl
    rw [hunfold]
    by_cases hroom : r.faults.length < 6
    · rw [appendEntry_room hroom]
      obtain ⟨hfaults, hover⟩ := ih htail (r := { r with faults := r.faults ++ [e] }) (by simpa using hroom)
      refine ⟨by simpa using hfaults, hover.trans ?_⟩
      simp only [List.length_append, List.length_cons, List.length_nil, add_assoc, add_comm 1]
    · have hfull : appendEntry e r = { r with overflow := .axle } := by
        have := haxle e List.mem_cons_self
        cases ho : r.overflow <;> simp [appendEntry, hroom, this, Overflow.add, ho]
      rw [hfull]
      obtain ⟨hfaults, hover⟩ := ih htail (r := { r with overflow := .axle }) hr
      have hsix : r.faults.length = 6 := by omega
      refine ⟨?_, ?_⟩
      · rw [hfaults]
        simp [hsix]
      · rw [hover]
        simp [hsix]

end Sys2Proof.Machine
end


section
/-! PROOFS. Order analysis (spec/06): the tracker, the samples, and the blocks, with O24, O25 and O27. -/

namespace Sys2Proof.Machine

/-! ## Discards (R98) -/

theorem discardBlock_noise (s : State) :
    (discardBlock s).noise = { s.noise with block := none, discards := min 255 (s.noise.discards + 1) } := by
  simp [discardBlock]

/-- A discard counts, whatever has been done to the tracker and the open block before it. -/
theorem countedDiscard_discardBlock {s u : State} (hqueue : u.queue = s.queue)
    (hcount : u.noise.discards = s.noise.discards) : CountedDiscard s (discardBlock u) := by
  refine ⟨by simp [discardBlock_noise, hcount], by simp [discardBlock, postNoise, post_nextSeq, hqueue], fun i => ?_⟩
  have hq : ∀ x, (u.withNoise x).queue = s.queue := fun x => hqueue
  simp only [discardBlock, postNoise, recordAt_post, onTestSlot_congr (hq _), recordAt_congr (hq _),
    State.withNoise_noise, post_frame]

theorem countedDiscard_congr {s t u : State} (h : CountedDiscard s t) (hqueue : u.queue = t.queue)
    (hcount : u.noise.discards = t.noise.discards) : CountedDiscard s u := by
  obtain ⟨hdiscards, hseq, hrecords⟩ := h
  refine ⟨hcount.trans hdiscards, by rw [hqueue, hseq], fun i => ?_⟩
  rw [recordAt_congr hqueue, hrecords, hcount]

/-! ## A new block (R91, R92) -/

theorem considerStart_of_open {s : State} {b : Block} (h : s.noise.block = some b) (stamp : Stamp) (e : Direction) :
    considerStart stamp e s = s := by
  simp [considerStart, h]

theorem considerStart_of_unlicensed {s : State} (h : licence s = none) (stamp : Stamp) (e : Direction) :
    considerStart stamp e s = s := by
  unfold considerStart
  rw [h]
  cases s.noise.block <;> cases s.noise.interval <;> rfl

/-- A block start touches the open block alone. -/
theorem considerStart_noise (stamp : Stamp) (e : Direction) (s : State) :
    (considerStart stamp e s).noise = { s.noise with block := (considerStart stamp e s).noise.block } := by
  unfold considerStart
  split <;> rfl

theorem licence_isSome {s : State} {c : TestContext} (hc : s.ctx = some c) :
    licence s = if noiseEnabled c.copy = true ∧ s.mode.mode = .run ∧ noiseWindow c.copy c.step = true ∧
      (c.phase = .ramp ∨ c.phase = .hold) then some c else none := by
  have hmoving : c.phase.moving = true ↔ c.phase = .ramp ∨ c.phase = .hold := by cases c.phase <;> simp [Phase.moving]
  simp only [licence, hc, hmoving]

/-- With no open block a block start opens a new block exactly when T is known and the licence holds. -/
theorem considerStart_closed {s : State} {c : TestContext} (hc : s.ctx = some c) (hblock : s.noise.block = none)
    (stamp : Stamp) (e : Direction) :
    ((considerStart stamp e s).noise.block.isSome = true ↔ s.noise.interval.isSome = true ∧ noiseEnabled c.copy = true ∧
      s.mode.mode = .run ∧ noiseWindow c.copy c.step = true ∧ (c.phase = .ramp ∨ c.phase = .hold)) ∧
    ∀ b, (considerStart stamp e s).noise.block = some b → b = newBlock c stamp e := by
  have hlicence := licence_isSome hc
  unfold considerStart
  rw [hblock, hlicence]
  cases hT : s.noise.interval with
  | none => simp [hblock]
  | some T =>
    by_cases hheld : noiseEnabled c.copy = true ∧ s.mode.mode = .run ∧ noiseWindow c.copy c.step = true ∧
      (c.phase = .ramp ∨ c.phase = .hold)
    · rw [if_pos hheld]
      simp [hheld]
    · rw [if_neg hheld]
      simp [hheld, hblock]

/-! ## The tracker (R88, R89) -/

/-- The part of the analyser that a block's closure and start leave alone. -/
def trackerOf (o : OrderAnalyser) : Option Pulse × Option Nat × Timer := (o.lastPulse, o.interval, o.stall)

@[simp] theorem trackerOf_block (o : OrderAnalyser) (b : Option Block) : trackerOf { o with block := b } = trackerOf o := rfl

theorem trackerOf_discardBlock (s : State) : trackerOf (discardBlock s).noise = trackerOf s.noise := by
  rw [discardBlock_noise]
  rfl

theorem trackerOf_closeBlock (c : TestContext) (b : Block) (stamp : Stamp) (s : State) :
    trackerOf (closeBlock c b stamp s).noise = trackerOf s.noise := by
  unfold closeBlock
  split
  · exact trackerOf_discardBlock s
  · split
    · exact trackerOf_discardBlock s
    · simp

theorem trackerOf_pulseBlock (b : Block) (stamp : Stamp) (e : Direction) (s : State) :
    trackerOf (pulseBlock b stamp e s).noise = trackerOf s.noise := by
  unfold pulseBlock
  split
  · exact trackerOf_discardBlock s
  · dsimp only
    split
    · split
      · exact trackerOf_closeBlock _ _ _ _
      · rfl
    · rfl

/-- The state in which a pulse meets the open block: the tracker has taken it. -/
def pulseTracked (stamp : Stamp) (e : Direction) (s : State) : State :=
  (s.withTicks stamp).withNoise (trackPulse stamp e s.noise)

theorem encoderPulse_of_open {s : State} {b : Block} (h : s.noise.block = some b) (stamp : Stamp) (e : Direction) :
    encoderPulse stamp e s = considerStart stamp e (pulseBlock b stamp e (pulseTracked stamp e s)) := by
  have hb : (trackPulse stamp e s.noise).block = some b := h
  simp only [encoderPulse, pulseTracked, State.withNoise_noise, hb]

theorem encoderPulse_of_closed {s : State} (h : s.noise.block = none) (stamp : Stamp) (e : Direction) :
    encoderPulse stamp e s = considerStart stamp e (pulseTracked stamp e s) := by
  have hb : (trackPulse stamp e s.noise).block = none := h
  simp only [encoderPulse, pulseTracked, State.withNoise_noise, hb]

theorem trackerOf_encoderPulse (stamp : Stamp) (e : Direction) (s : State) :
    trackerOf (encoderPulse stamp e s).noise = trackerOf (trackPulse stamp e s.noise) := by
  cases h : s.noise.block with
  | none =>
    rw [encoderPulse_of_closed h, considerStart_noise]
    rfl
  | some b =>
    rw [encoderPulse_of_open h, considerStart_noise, trackerOf_block, trackerOf_pulseBlock]
    rfl

theorem encoderPulse_ticks (stamp : Stamp) (e : Direction) (s : State) : (encoderPulse stamp e s).ticks = stamp := by
  cases h : s.noise.block with
  | none => rw [encoderPulse_of_closed h]; simp [pulseTracked]
  | some b => rw [encoderPulse_of_open h]; simp [pulseTracked]

theorem encoderPulse_eq (stamp : Stamp) (e : Direction) (s : State) :
    encoderPulse stamp e s =
      ((s.withNoise (encoderPulse stamp e s).noise).withQueue (encoderPulse stamp e s).queue).withTicks stamp := by
  apply State.eq_of_fields <;> simp [encoderPulse_ticks]

/-- Settles O24: the tracker's three parts, with the discard and the block start as they stand above. -/
theorem trackerFollows : Obligations.TrackerFollows := by
  refine ⟨fun stamp d s => ?_, fun s n hrun hfirst => ?_, fun s q hrun hq hstamp => ?_⟩
  · have htracker := trackerOf_encoderPulse stamp d s
    simp only [trackerOf, Prod.mk.injEq] at htracker
    obtain ⟨hlast, hinterval, hstall⟩ := htracker
    refine ⟨encoderPulse stamp d s, rfl, encoderPulse_eq stamp d s, hlast, hstall, hinterval, fun hblock hlicence => ?_⟩
    have hunlicensed : licence (pulseTracked stamp d s) = none := hlicence
    rw [encoderPulse_of_closed hblock, considerStart_of_unlicensed hunlicensed]
    exact ⟨rfl, hblock, rfl⟩
  · have hjust : pulseJustTaken s = false := by
      rw [Bool.eq_false_iff, Ne, pulseJustTaken_iff]
      rintro ⟨hfull, q, hq, hstamp⟩
      rw [hrun] at hfull
      have hlong : ¬n < 200000 := of_decide_eq_false hfull
      exact hfirst.elim hlong fun h => h q hq hstamp
    have hexec : exec .stallTimerExpiry s = .next (stallTimerExpiry s) := rfl
    rw [hexec, stallTimerExpiry_eq, if_pos ⟨by rw [hrun]; rfl, hjust⟩]
    refine ⟨_, rfl, ?_⟩
    unfold stallExpiry
    dsimp only [State.withNoise_noise]
    cases hblock : s.noise.block with
    | none =>
      rw [if_neg (by simp)]
      exact ⟨rfl, rfl, fun _ => rfl, fun h => nomatch h⟩
    | some b =>
      rw [if_pos (by simp)]
      refine ⟨by apply State.eq_of_fields <;> simp, discardBlock_noise _, fun h => (nomatch h), fun _ => ?_⟩
      exact countedDiscard_discardBlock rfl rfl
  · have hjust : pulseJustTaken s = true := (pulseJustTaken_iff s).2 ⟨by rw [hrun]; rfl, q, hq, hstamp⟩
    have hexec : exec .stallTimerExpiry s = .next (stallTimerExpiry s) := rfl
    rw [hexec, stallTimerExpiry_eq, if_neg (by simp [hjust])]

/-! ## Samples (R93 to R95) -/

/-- What a slot of a sample's weight adds to one accumulator: nothing in an unused slot. -/
def slotShare (copy : Items) (j : Nat) (x : Int) : Int := if order copy j = 0 then 0 else x

theorem addSlot_frame (copy : Items) (x : Int) (angle : Nat) (b : Block) (k : Nat) :
    addSlot copy x angle b k =
      { b with inPhase := (addSlot copy x angle b k).inPhase, quadrature := (addSlot copy x angle b k).quadrature } := by
  unfold addSlot
  split <;> rfl

theorem addSlot_sums (copy : Items) (x : Int) (angle : Nat) (b : Block) (k : Nat) (j : Fin 4) :
    (addSlot copy x angle b k).inPhase[j] = b.inPhase[j] +
      (if k = j.val then slotShare copy k (x * sine ((phaseIndex (order copy k) angle + 256) % 1024)) else 0) ∧
    (addSlot copy x angle b k).quadrature[j] = b.quadrature[j] +
      (if k = j.val then slotShare copy k (x * sine (phaseIndex (order copy k) angle)) else 0) := by
  unfold addSlot slotShare
  by_cases hused : order copy k = 0
  · simp [hused]
  · by_cases hk : k = j.val
    · subst hk
      simp [hused]
    · simp [hused, hk]

theorem foldl_addSlot_frame (copy : Items) (x : Int) (angle : Nat) (l : List Nat) :
    ∀ b : Block, ∃ i q, l.foldl (addSlot copy x angle) b = { b with inPhase := i, quadrature := q } := by
  induction l with
  | nil => exact fun b => ⟨_, _, rfl⟩
  | cons k l ih =>
    intro b
    obtain ⟨i, q, h⟩ := ih (addSlot copy x angle b k)
    rw [List.foldl_cons, h, addSlot_frame]
    exact ⟨i, q, rfl⟩

theorem accumulate_frame (copy : Items) (x : Int) (angle : Nat) (b : Block) :
    accumulate copy x angle b =
      { b with
        inPhase := (accumulate copy x angle b).inPhase, quadrature := (accumulate copy x angle b).quadrature } := by
  obtain ⟨i, q, h⟩ := foldl_addSlot_frame copy x angle [0, 1, 2, 3] b
  rw [accumulate, h]

/-- Each slot's accumulators take the slot's share once. -/
theorem accumulate_sums (copy : Items) (x : Int) (angle : Nat) (b : Block) (j : Fin 4) :
    (accumulate copy x angle b).inPhase[j] = b.inPhase[j] +
      slotShare copy j.val (x * sine ((phaseIndex (order copy j.val) angle + 256) % 1024)) ∧
    (accumulate copy x angle b).quadrature[j] = b.quadrature[j] +
      slotShare copy j.val (x * sine (phaseIndex (order copy j.val) angle)) := by
  have hunfold : accumulate copy x angle b =
      addSlot copy x angle (addSlot copy x angle (addSlot copy x angle (addSlot copy x angle b 0) 1) 2) 3 := rfl
  rw [hunfold]
  simp only [addSlot_sums]
  fin_cases j <;> simp

/-- A block that has counted and marked a sample. -/
def countSample (w : SampleWord) (b : Block) : Block := { markSample w b with samples := b.samples + 1 }

theorem exec_sampleArrival (stamp : Stamp) (w : SampleWord) (s : State) :
    exec (.sampleArrival stamp w) s = .next (sampleArrival stamp w s) := rfl

/-- Settles O25: the sample in the four cases of its arrival, and each slot's share of it. -/
theorem sampleAccumulates : Obligations.SampleAccumulates := by
  refine fun stamp w s => ⟨fun hclosed => ?_, fun blk q T c hblk hq hT hc hroom => ?_⟩
  · rw [exec_sampleArrival]
    unfold sampleArrival
    dsimp only [State.withTicks_noise, State.withTicks_ctx]
    rcases hclosed with hblock | hT
    · simp only [hblock]
    · rw [hT]
      cases s.noise.block <;> cases s.noise.lastPulse <;> rfl
  · have harrival : exec (.sampleArrival stamp w) s = .next ((s.withTicks stamp).withNoise { s.noise with
        block := some (accumulate c.copy (sampleValue w)
          (sampleAngle blk.pulses blk.direction (sampleFraction (stamp - q.stamp).toNat T))
          (countSample w blk)) }) := by
      rw [exec_sampleArrival]
      unfold sampleArrival
      have hmarked : ¬(markSample w blk).samples = 65535 := hroom
      simp only [State.withTicks_noise, State.withTicks_ctx, hblk, hq, hT, hc, if_neg hmarked]
      rfl
    refine ⟨_, _, harrival, rfl, ?_⟩
    have hframe := accumulate_frame c.copy (sampleValue w)
      (sampleAngle blk.pulses blk.direction (sampleFraction (stamp - q.stamp).toNat T))
      (countSample w blk)
    refine ⟨(congrArg Block.samples hframe :), (congrArg Block.pulses hframe :), (congrArg Block.start hframe :),
      (congrArg Block.direction hframe :), (congrArg Block.flank hframe :), (congrArg Block.linkMark hframe :),
      (congrArg Block.clipMark hframe :), fun j => ?_⟩
    have hsign : (if blk.direction = .fwd then (1 : Int) else -1) = directionSign blk.direction := by
      cases blk.direction <;> rfl
    simp only [hsign]
    exact accumulate_sums c.copy (sampleValue w) _ _ j

end Sys2Proof.Machine
end


section
/-! PROOFS. The post of a block (R99 to R103): O27. -/

namespace Sys2Proof.Machine

/-! ## One slot's post -/

/-- A slot's amplitude in a block (R101). -/
def slotAmplitude (b : Block) (j : Nat) : Nat :=
  amplitude (b.inPhase[j]?.getD 0) (b.quadrature[j]?.getD 0) b.samples

/-- The entries that a slot's post appends to a record with this noise section: one or none (R103 step 1). -/
def slotEntries (c : TestContext) (blk : Block) (bin : Nat) (n : NoiseSection) (j : Nat) : List FaultEntry :=
  if order c.copy j ≠ 0 ∧ exceeds c.copy n j blk.flank bin (slotAmplitude blk j) = true then
    [⟨.noiseExceed j blk.flank bin, c.step, slotAmplitude blk j⟩]
  else []

/-- A slot's post to the noise section (R103 step 2). -/
def postPeak (c : TestContext) (blk : Block) (bin : Nat) (n : NoiseSection) (j : Nat) : NoiseSection :=
  if order c.copy j = 0 then n
  else
    { n with
      peaks := n.peaks.setIfInBounds (cellIndex j blk.flank bin)
        (max (n.peaks[cellIndex j blk.flank bin]?.getD 0) (slotAmplitude blk j)) }

variable {c : TestContext} {blk : Block} {bin : Nat}

theorem postSlot_eq {r : Record} {n : NoiseSection} (hnoise : r.noise = some n) (j : Nat) :
    postSlot c blk bin r j =
      { appendEntries (slotEntries c blk bin n j) r with noise := some (postPeak c blk bin n j) } := by
  by_cases hunused : order c.copy j = 0
  · rw [postSlot, if_pos hunused, slotEntries, if_neg (fun h => h.1 hunused), postPeak, if_pos hunused, ← hnoise]
    rfl
  · rw [postSlot, if_neg hunused, hnoise, postPeak, if_neg hunused]
    by_cases hexceeds : exceeds c.copy n j blk.flank bin (slotAmplitude blk j) = true
    · rw [slotEntries, if_pos ⟨hunused, hexceeds⟩]
      simp only [slotAmplitude] at hexceeds
      simp only [hexceeds, if_true]
      rfl
    · rw [slotEntries, if_neg (fun h => hexceeds h.2)]
      simp only [slotAmplitude] at hexceeds
      simp only [hexceeds]
      rfl

theorem postPeak_rest (n : NoiseSection) (j : Nat) :
    postPeak c blk bin n j = { n with peaks := (postPeak c blk bin n j).peaks } := by
  unfold postPeak
  split <;> rfl

theorem cellIndex_lt {j b : Nat} (hj : j < 4) (f : Flank) (hb : b ≤ 15) : cellIndex j f b < 128 := by
  cases f <;> simp [cellIndex, Flank.code] <;> omega

/-- The cells of the peak table are distinct (R102). -/
theorem cellIndex_inj {j k b d : Nat} {f g : Flank} (hb : b ≤ 15) (hd : d ≤ 15) :
    cellIndex j f b = cellIndex k g d ↔ j = k ∧ f = g ∧ b = d := by
  cases f <;> cases g <;> simp [cellIndex, Flank.code] <;> omega

/-- A slot's post moves its own cell alone. -/
theorem postPeak_peaks (n : NoiseSection) {j k b : Nat} (f : Flank) (hj : j < 4) (hb : b ≤ 15) (hbin : bin ≤ 15) :
    (postPeak c blk bin n j).peaks[cellIndex k f b]?.getD 0 =
      if k = j ∧ f = blk.flank ∧ b = bin ∧ order c.copy j ≠ 0 then
        max (n.peaks[cellIndex k f b]?.getD 0) (slotAmplitude blk j)
      else n.peaks[cellIndex k f b]?.getD 0 := by
  have hbound := cellIndex_lt hj blk.flank hbin
  unfold postPeak
  by_cases hused : order c.copy j = 0
  · simp [hused]
  · rw [if_neg hused]
    by_cases hcell : k = j ∧ f = blk.flank ∧ b = bin
    · obtain ⟨rfl, rfl, rfl⟩ := hcell
      simp [hused, hbound]
    · have hother : cellIndex j blk.flank bin ≠ cellIndex k f b := fun h => by
        obtain ⟨rfl, rfl, rfl⟩ := (cellIndex_inj hbin hb).1 h
        exact hcell ⟨rfl, rfl, rfl⟩
      rw [if_neg fun h => hcell ⟨h.1, h.2.1, h.2.2.1⟩, Vector.getElem?_setIfInBounds_ne hother]

/-! ## The four slots in order -/

theorem flankExceeded_postPeak (n : NoiseSection) {j k : Nat} (hj : j < 4) (hne : k ≠ j) (hbin : bin ≤ 15) (f : Flank) :
    flankExceeded c.copy (postPeak c blk bin n j) k f = flankExceeded c.copy n k f := by
  rw [Bool.eq_iff_iff]
  simp only [flankExceeded, List.any_eq_true, List.mem_range]
  refine exists_congr fun b => and_congr_right fun hb => ?_
  rw [postPeak_peaks n f hj (by omega) hbin, if_neg fun h => hne h.1]

theorem slotEntries_postPeak (n : NoiseSection) {j k : Nat} (hj : j < 4) (hne : k ≠ j) (hbin : bin ≤ 15) :
    slotEntries c blk bin (postPeak c blk bin n j) k = slotEntries c blk bin n k := by
  have hexceeds : exceeds c.copy (postPeak c blk bin n j) k blk.flank bin (slotAmplitude blk k) =
      exceeds c.copy n k blk.flank bin (slotAmplitude blk k) := by
    rw [exceeds, exceeds, flankExceeded_postPeak n hj hne hbin]
  rw [slotEntries, slotEntries, hexceeds]

theorem foldl_postPeak_rest (l : List Nat) : ∀ n, ∃ p, l.foldl (postPeak c blk bin) n = { n with peaks := p } := by
  induction l with
  | nil => exact fun n => ⟨_, rfl⟩
  | cons j l ih =>
    intro n
    obtain ⟨p, h⟩ := ih (postPeak c blk bin n j)
    rw [List.foldl_cons, h, postPeak_rest]
    exact ⟨p, rfl⟩

theorem foldl_postPeak_peaks {l : List Nat} (hl : ∀ j ∈ l, j < 4) (hdistinct : l.Nodup) (hbin : bin ≤ 15) (k : Nat)
    (f : Flank) {b : Nat} (hb : b ≤ 15) :
    ∀ n : NoiseSection, (l.foldl (postPeak c blk bin) n).peaks[cellIndex k f b]?.getD 0 =
      if k ∈ l ∧ f = blk.flank ∧ b = bin ∧ order c.copy k ≠ 0 then
        max (n.peaks[cellIndex k f b]?.getD 0) (slotAmplitude blk k)
      else n.peaks[cellIndex k f b]?.getD 0 := by
  induction l with
  | nil => exact fun n => by simp
  | cons j l ih =>
    intro n
    obtain ⟨hfresh, hrest⟩ := List.nodup_cons.1 hdistinct
    rw [List.foldl_cons, ih (fun x hx => hl x (List.mem_cons_of_mem j hx)) hrest,
      postPeak_peaks n f (hl j List.mem_cons_self) hb hbin]
    by_cases hk : k = j
    · subst hk
      simp [hfresh]
    · simp [hk]

/-- The four posts in slot order: each slot appends what it would append alone, since it moves no other slot's peaks. -/
theorem foldl_postSlot {l : List Nat} (hl : ∀ j ∈ l, j < 4) (hdistinct : l.Nodup) (hbin : bin ≤ 15) :
    ∀ {r : Record} {n : NoiseSection}, r.noise = some n →
      l.foldl (postSlot c blk bin) r =
        { appendEntries (l.flatMap (slotEntries c blk bin n)) r with
          noise := some (l.foldl (postPeak c blk bin) n) } := by
  induction l with
  | nil =>
    intro r n hnoise
    rw [List.flatMap_nil, List.foldl_nil, List.foldl_nil, ← hnoise]
    rfl
  | cons j l ih =>
    intro r n hnoise
    obtain ⟨hfresh, hrest⟩ := List.nodup_cons.1 hdistinct
    have hentries : l.flatMap (slotEntries c blk bin (postPeak c blk bin n j)) = l.flatMap (slotEntries c blk bin n) :=
      List.flatMap_congr fun k hk =>
        slotEntries_postPeak n (hl j List.mem_cons_self) (ne_of_mem_of_not_mem hk hfresh) hbin
    rw [List.foldl_cons, postSlot_eq hnoise, ih (fun x hx => hl x (List.mem_cons_of_mem j hx)) hrest rfl, hentries,
      appendEntries_noise, List.flatMap_cons, appendEntries_append]
    rfl

/-! ## The post of a block -/

/-- The noise section after a block's post. -/
def postedSection (c : TestContext) (blk : Block) (bin : Nat) (n : NoiseSection) : NoiseSection :=
  { [0, 1, 2, 3].foldl (postPeak c blk bin) n with
    coverage := n.coverage.setIfInBounds (16 * blk.flank.code + bin) true }

/-- The record after a block's post. -/
theorem postBlock_eq {r : Record} {n : NoiseSection} (hnoise : r.noise = some n) (hbin : bin ≤ 15) :
    postBlock c blk bin r =
      { appendEntries ([0, 1, 2, 3].flatMap (slotEntries c blk bin n)) r with
        noise := some (postedSection c blk bin n) } := by
  have hslots := foldl_postSlot (c := c) (blk := blk) (l := [0, 1, 2, 3]) (by decide) (by decide) hbin hnoise
  have hcoverage : ([0, 1, 2, 3].foldl (postPeak c blk bin) n).coverage = n.coverage := by
    obtain ⟨p, h⟩ := foldl_postPeak_rest (c := c) (blk := blk) (bin := bin) [0, 1, 2, 3] n
    rw [h]
  rw [postBlock, hslots]
  simp only [Option.map_some, hcoverage, postedSection]

theorem slotEntries_axle (n : NoiseSection) (j : Nat) : ∀ e ∈ slotEntries c blk bin n j, e.kind.axle = true := by
  unfold slotEntries
  split
  · simp [FaultKind.axle]
  · simp

theorem exceeds_iff (n : NoiseSection) (j : Nat) (f : Flank) (a : Nat) :
    exceeds c.copy n j f bin a = true ↔
      limitAt c.copy (cellIndex j f bin) ≠ 0 ∧ limitAt c.copy (cellIndex j f bin) < a ∧
      ∀ b : Fin 16, limitAt c.copy (cellIndex j f b.val) = 0 ∨
        n.peaks[cellIndex j f b.val]?.getD 0 ≤ limitAt c.copy (cellIndex j f b.val) := by
  simp only [exceeds, flankExceeded, Bool.and_eq_true, bne_iff_ne, decide_eq_true_eq, Bool.not_eq_true', List.any_eq_false,
    List.mem_range, Fin.forall_iff, and_assoc, not_and, not_lt, ← or_iff_not_imp_left]

/-! ## The open block at a pulse (R97 to R100) -/

theorem pulseBlock_turned {e : Direction} (h : e ≠ blk.direction) (stamp : Stamp) (s : State) :
    pulseBlock blk stamp e s = discardBlock s := if_pos h

/-- The block after a pulse of its own direction. -/
def countPulse (b : Block) : Block := { b with pulses := b.pulses + directionSign b.direction }

theorem pulseBlock_counted {s : State} (hc : s.ctx = some c) (stamp : Stamp) :
    pulseBlock blk stamp blk.direction s =
      if (countPulse blk).pulses.natAbs = 512 * blockRevs c.copy then
        closeBlock c (countPulse blk) stamp (s.withNoise { s.noise with block := some (countPulse blk) })
      else s.withNoise { s.noise with block := some (countPulse blk) } := by
  unfold pulseBlock
  rw [if_neg (not_not_intro rfl)]
  simp only [State.withNoise_ctx, hc]
  rfl

/-- Every closure leaves no open block, whatever it does with the one it closes. -/
theorem closeBlock_block (stamp : Stamp) (s : State) : (closeBlock c blk stamp s).noise.block = none := by
  unfold closeBlock
  split
  · rw [discardBlock_noise]
  · split
    · rw [discardBlock_noise]
    · simp

theorem closeBlock_bad (h : blk.linkMark = true ∨ blk.clipMark = true ∨ blk.samples < 64) (stamp : Stamp) (s : State) :
    closeBlock c blk stamp s = discardBlock s :=
  if_pos (by simpa [or_assoc] using h)

theorem closeBlock_good (h : ¬(blk.linkMark = true ∨ blk.clipMark = true ∨ blk.samples < 64)) {stamp : Stamp} {rpm : Nat}
    (hspeed : blockSpeed (blockRevs c.copy) (stamp - blk.start).toNat = rpm) (s : State) :
    closeBlock c blk stamp s =
      ((speedBin c.copy rpm).elim (discardBlock s) fun b => post (postBlock c blk b) (s.withNoise { s.noise with block := none })) := by
  unfold closeBlock
  rw [if_neg (by simpa [or_assoc] using h), hspeed]
  cases speedBin c.copy rpm <;> rfl

theorem blockSpeed_of_ne {stamp start : Stamp} (h : stamp ≠ start) (revs : Nat) :
    blockSpeed revs (stamp - start).toNat = 600000000 * revs / (stamp - start).toNat := by
  exact if_neg fun hzero => h (by bv_omega)

theorem speedBin_outside {rpm : Nat}
    (h : rpm < lowBinSpeed c.copy ∨ 15 < (rpm - lowBinSpeed c.copy) / binWidth c.copy) : speedBin c.copy rpm = none := by
  simp only [speedBin]
  split
  · rfl
  · exact if_neg (by omega)

theorem speedBin_inside {rpm : Nat}
    (h : ¬(rpm < lowBinSpeed c.copy ∨ 15 < (rpm - lowBinSpeed c.copy) / binWidth c.copy)) :
    speedBin c.copy rpm = some ((rpm - lowBinSpeed c.copy) / binWidth c.copy) := by
  obtain ⟨hlow, hhigh⟩ := not_or.1 h
  simp only [speedBin, if_neg hlow, if_pos (Nat.le_of_not_lt hhigh)]

/-! ## What a pulse with an open block does -/

/-- The record after a good block's post, as O27 says it. -/
theorem postBlock_spec {r : Record} {n : NoiseSection} (hnoise : r.noise = some n) (hroom : r.faults.length ≤ 6)
    (hbin : bin ≤ 15) :
    ∃ n', postBlock c blk bin r =
        { r with
          noise := some n', faults := (postBlock c blk bin r).faults, overflow := (postBlock c blk bin r).overflow } ∧
      n'.discards = n.discards ∧ n'.outcome = n.outcome ∧
      (∀ k, n'.coverage[k]?.getD false = true ↔
        n.coverage[k]?.getD false = true ∨ k = 16 * blk.flank.code + bin) ∧
      (∀ j : Fin 4, ∀ f b, b ≤ 15 →
        n'.peaks[cellIndex j.val f b]?.getD 0 =
          if f = blk.flank ∧ b = bin ∧ order c.copy j.val ≠ 0 then
            max (n.peaks[cellIndex j.val f b]?.getD 0) (slotAmplitude blk j.val)
          else n.peaks[cellIndex j.val f b]?.getD 0) ∧
      (postBlock c blk bin r).faults = (r.faults ++ [0, 1, 2, 3].flatMap (slotEntries c blk bin n)).take 6 ∧
      (postBlock c blk bin r).overflow =
        if r.faults.length + ([0, 1, 2, 3].flatMap (slotEntries c blk bin n)).length ≤ 6 then r.overflow else .axle := by
  have hpost := postBlock_eq (c := c) (blk := blk) hnoise hbin
  obtain ⟨p, hrest⟩ := foldl_postPeak_rest (c := c) (blk := blk) (bin := bin) [0, 1, 2, 3] n
  have haxle : ∀ e ∈ [0, 1, 2, 3].flatMap (slotEntries c blk bin n), e.kind.axle = true := fun e he => by
    obtain ⟨j, -, hj⟩ := List.mem_flatMap.1 he
    exact slotEntries_axle n j e hj
  obtain ⟨hfaults, hoverflow⟩ := appendEntries_axle haxle hroom
  have hcover : 16 * blk.flank.code + bin < 32 := by cases blk.flank <;> simp [Flank.code] <;> omega
  refine ⟨postedSection c blk bin n, ?_, (congrArg NoiseSection.discards hrest :),
    (congrArg NoiseSection.outcome hrest :), fun k => ?_, fun j f b hb => ?_,
    (congrArg Record.faults hpost).trans hfaults, (congrArg Record.overflow hpost).trans hoverflow⟩
  · rw [hpost, appendEntries_frame]
  · by_cases hk : 16 * blk.flank.code + bin = k
    · subst hk
      simp [postedSection, hcover]
    · simp [postedSection, Vector.getElem?_setIfInBounds_ne hk, Ne.symm hk]
  · have hpeaks := foldl_postPeak_peaks (c := c) (blk := blk) (l := [0, 1, 2, 3]) (by decide) (by decide) hbin j.val f hb n
    have hslot : j.val ∈ [0, 1, 2, 3] := by fin_cases j <;> simp
    simp only [hslot, true_and] at hpeaks
    exact hpeaks

/-- The entries of the four slots, as O27 lists them. -/
theorem slotEntries_list (n : NoiseSection) (entry : Fin 4 → Option FaultEntry)
    (hentry : ∀ j : Fin 4, slotEntries c blk bin n j.val = (entry j).toList) :
    [0, 1, 2, 3].flatMap (slotEntries c blk bin n) = (List.finRange 4).filterMap entry := by
  have hslots : [0, 1, 2, 3] = (List.finRange 4).map Fin.val := by decide
  rw [hslots, List.flatMap_map, List.filterMap_eq_flatMap_toList]
  exact List.flatMap_congr fun j _ => hentry j

theorem directionSign_eq (d : Direction) : directionSign d = if d = .fwd then 1 else -1 := by cases d <;> rfl

theorem discardBlock_block (s : State) : (discardBlock s).noise.block = none := by rw [discardBlock_noise]

/-- A sample into a block that can hold no more discards it (R93 step 2). -/
theorem sampleArrival_full {s : State} {q : Pulse} {T : Nat} (hc : s.ctx = some c) (hblk : s.noise.block = some blk)
    (hq : s.noise.lastPulse = some q) (hT : s.noise.interval = some T) (hfull : blk.samples = 65535) (stamp : Stamp)
    (w : SampleWord) :
    sampleArrival stamp w s =
      discardBlock ((s.withTicks stamp).withNoise { s.noise with block := some (markSample w blk) }) := by
  have hmarked : (markSample w blk).samples = 65535 := hfull
  unfold sampleArrival
  simp only [State.withTicks_noise, State.withTicks_ctx, hblk, hq, hT, hc, hmarked, if_true]

/-- Settles O27: the pulse by the four ends of the open block, the post slot by slot, and the last sample a block can hold. -/
theorem blockPosts : Obligations.BlockPosts := by
  refine ⟨fun stamp e s c blk hc hblk => ?_, fun stamp w s c blk q T hc hblk hq hT hfull => ?_⟩
  · refine ⟨encoderPulse stamp e s, rfl, encoderPulse_eq stamp e s, ?_⟩
    have hpulse := encoderPulse_of_open hblk stamp e
    obtain ⟨u, hu⟩ : ∃ u, u = pulseTracked stamp e s := ⟨_, rfl⟩
    have huqueue : u.queue = s.queue := by rw [hu]; rfl
    have hucount : u.noise.discards = s.noise.discards := by rw [hu]; rfl
    have hudiscards : CountedDiscard s (discardBlock u) := countedDiscard_discardBlock huqueue hucount
    have huctx : u.ctx = some c := by rw [hu]; exact hc
    have humode : u.mode = s.mode := by rw [hu]; rfl
    rw [← hu] at hpulse
    have hqueue : (encoderPulse stamp e s).queue = (pulseBlock blk stamp e u).queue := by rw [hpulse]; simp
    have hcount : (encoderPulse stamp e s).noise.discards = (pulseBlock blk stamp e u).noise.discards := by
      rw [hpulse, considerStart_noise]
    have hdiscarded : pulseBlock blk stamp e u = discardBlock u → CountedDiscard s (encoderPulse stamp e s) := fun h =>
      countedDiscard_congr hudiscards (by rw [hqueue, h]) (by rw [hcount, h])
    have hstart : (pulseBlock blk stamp e u).noise.block = none →
        ((encoderPulse stamp e s).noise.block.isSome = true ↔ (encoderPulse stamp e s).noise.interval.isSome = true ∧
          noiseEnabled c.copy = true ∧ s.mode.mode = .run ∧ noiseWindow c.copy c.step = true ∧
          (c.phase = .ramp ∨ c.phase = .hold)) ∧
        ∀ b, (encoderPulse stamp e s).noise.block = some b → b = newBlock c stamp e := fun h => by
      have hnew := considerStart_closed (c := c) (s := pulseBlock blk stamp e u) (by simp [huctx]) h stamp e
      have hinterval : (encoderPulse stamp e s).noise.interval = (pulseBlock blk stamp e u).noise.interval := by
        rw [hpulse, considerStart_noise]
      rw [hinterval, hpulse]
      simpa [humode] using hnew
    intro count full bad rpm bin outside
    have hcounted : ∀ h : e = blk.direction, (countPulse blk).pulses = count := fun h => by
      rw [countPulse, directionSign_eq, ← h]
    have hclosed : ∀ h : e = blk.direction, full → pulseBlock blk stamp e u =
        closeBlock c (countPulse blk) stamp (u.withNoise { u.noise with block := some (countPulse blk) }) :=
      fun h hlong => by
        have := hcounted h
        subst h
        rw [pulseBlock_counted huctx, this, if_pos hlong]
    have hother : ∀ x, CountedDiscard s (discardBlock (u.withNoise { u.noise with block := x })) := fun x =>
      countedDiscard_discardBlock huqueue hucount
    have hspeed : stamp ≠ blk.start → blockSpeed (blockRevs c.copy) (stamp - (countPulse blk).start).toNat = rpm :=
      fun hlater => blockSpeed_of_ne hlater (blockRevs c.copy)
    refine ⟨fun h hshort => ?_, fun h => hdiscarded (pulseBlock_turned h stamp u), fun h hlong hbad => ?_,
      fun h hlong hgood hlater hout => ?_, fun hend => hstart ?_, fun h hlong hgood hlater hin => ?_⟩
    · have hpulses := hcounted h
      have hpast : pulseBlock blk stamp e u = u.withNoise { u.noise with block := some (countPulse blk) } := by
        subst h
        rw [pulseBlock_counted huctx, hpulses, if_neg hshort]
      rw [hpast] at hpulse hqueue hcount
      refine ⟨?_, hcount.trans hucount, hqueue.trans huqueue⟩
      rw [hpulse, considerStart_of_open rfl]
      exact congrArg (fun n => some { blk with pulses := n }) hpulses
    · have hlost := hclosed h hlong
      rw [closeBlock_bad (blk := countPulse blk) hbad] at hlost
      exact countedDiscard_congr (hother _) (by rw [hqueue, hlost]) (by rw [hcount, hlost])
    · have hlost := hclosed h hlong
      rw [closeBlock_good (blk := countPulse blk) hgood (hspeed hlater), speedBin_outside hout, Option.elim_none] at hlost
      exact countedDiscard_congr (hother _) (by rw [hqueue, hlost]) (by rw [hcount, hlost])
    · rcases Decidable.em (e = blk.direction) with h | h
      · rw [hclosed h (hend.resolve_left (not_not_intro h)), closeBlock_block]
      · rw [pulseBlock_turned h, discardBlock_block]
    · have hposted := hclosed h hlong
      rw [closeBlock_good (blk := countPulse blk) hgood (hspeed hlater), speedBin_inside hin, Option.elim_some] at hposted
      refine ⟨by rw [hcount, hposted]; simpa using hucount, fun i r n hslot hr hnoise hroom => ?_⟩
      have hbin : bin ≤ 15 := not_lt.1 fun h => hin (.inr h)
      have hrecord : recordAt (encoderPulse stamp e s) i = some (postBlock c (countPulse blk) bin r) := by
        rw [recordAt_congr hqueue, hposted]
        have hclosing : ∀ x y, ((u.withNoise x).withNoise y).queue = s.queue := fun _ _ => huqueue
        rw [recordAt_post_of_queue (hclosing _ _), if_pos hslot, hr]
        rfl
      obtain ⟨n', hframe, hdiscards, houtcome, hcover, hpeaks, hfaults, hover⟩ :=
        postBlock_spec (c := c) (blk := countPulse blk) hnoise hroom hbin
      have hamp : ∀ j : Fin 4, slotAmplitude (countPulse blk) j.val =
          amplitude blk.inPhase[j] blk.quadrature[j] blk.samples := fun j => by
        simp [slotAmplitude, countPulse]
      refine ⟨_, n', hrecord, hframe, hdiscards, houtcome, hcover, ?_, ?_⟩
      · simp only [hamp] at hpeaks
        exact hpeaks
      · intro exceed
        have hlist : [0, 1, 2, 3].flatMap (slotEntries c (countPulse blk) bin n) = exceed := by
          refine slotEntries_list n _ fun j => ?_
          rw [slotEntries, hamp]
          simp only [exceeds_iff, apply_ite Option.toList]
          rfl
        rw [← hlist]
        exact ⟨hfaults, hover⟩
  · have hexec := exec_sampleArrival stamp w s
    rw [sampleArrival_full hc hblk hq hT hfull] at hexec
    refine ⟨_, hexec, ?_, discardBlock_noise _, countedDiscard_discardBlock rfl rfl⟩
    apply State.eq_of_fields <;> simp

end Sys2Proof.Machine
end


section
/-! PROOFS. The link cycle (spec/04) and the timers of a test (spec/03): O13, O15 and O17. -/

namespace Sys2Proof.Machine

/-! ## Setpoint messages (R58, R59) -/

/-- A message that ends with the check of its body is right. -/
theorem checkRight_append (bs : List Byte) : checkRight (bs ++ [checkByte bs]) = true := by
  simp [checkRight, checkByte]

/-- The flags byte of a setpoint message (R58). -/
def setpointFlags (d : DriveId) (enable : Bool) (x : Direction) : Byte :=
  flagByte enable + (if x = .rev then 2 else 0) + (if (d != .input) = true then 4 else 0)

theorem setpointFlags_bits (d : DriveId) (enable : Bool) (x : Direction) :
    (setpointFlags d enable x).getLsbD 0 = enable ∧ ((setpointFlags d enable x).getLsbD 1 = true ↔ x = .rev) := by
  cases d <;> cases enable <;> cases x <;> decide

/-- The parts of a setpoint message. -/
theorem setpointMessage_parts (d : DriveId) (cycle : Byte) (enable : Bool) (x : Demand) :
    (setpointMessage d cycle enable x).length = 8 ∧ checkRight (setpointMessage d cycle enable x) = true ∧
    (setpointMessage d cycle enable x)[0]? = some (byte (driveNumber d)) ∧
    (setpointMessage d cycle enable x)[1]? = some cycle ∧
    (setpointMessage d cycle enable x)[2]? = some (setpointFlags d enable x.direction) :=
  ⟨rfl, checkRight_append _, rfl, rfl, rfl⟩

/-- A number of at most 16 bits, or its low 16 bits, as a signed field. -/
theorem beInt16_natCast (n : Nat) : beInt16 (n : Int) = be16 n := by
  have hbytes : ∀ x, be16 (x % 65536) = be16 x := fun x => by
    simp only [be16, byte, List.cons.injEq, and_true]
    constructor <;> apply BitVec.eq_of_toNat_eq <;> simp only [BitVec.toNat_ofNat] <;> omega
  rw [beInt16, ← hbytes n]
  simp

/-- The setpoint and the limit of a setpoint message: the speed for the input drive, the torque for a wheel drive. -/
theorem setpointMessage_setpoint (cycle : Byte) (enable : Bool) (x : Demand) :
    ((setpointMessage .input cycle enable x).drop 3).take 4 = be16 x.speed ++ be16 x.limit ∧
    ∀ d, d ≠ .input → ((setpointMessage d cycle enable x).drop 3).take 4 = beInt16 x.wheel ++ be16 30000 := by
  refine ⟨?_, fun d hd => ?_⟩
  · rw [← beInt16_natCast]
    rfl
  · have hwheel : (d != .input) = true := by simpa using hd
    simp only [setpointMessage, hwheel, if_true]
    rfl

/-! ## The ramp update (R41) -/

theorem rampUpdate_rest (x : Demand) :
    (rampUpdate x).direction = x.direction ∧ (rampUpdate x).wheel = x.wheel ∧ (rampUpdate x).limit = x.limit := by
  unfold rampUpdate
  split
  · split <;> exact ⟨rfl, rfl, rfl⟩
  · exact ⟨rfl, rfl, rfl⟩

theorem rampUpdate_none {x : Demand} (h : x.ramp = none) : rampUpdate x = x := by
  simp [rampUpdate, h]

theorem rampUpdate_under_way {x : Demand} {r : Ramp} (h : x.ramp = some r) (hne : r.start ≠ r.target)
    (hlong : r.elapsed + 2 < r.length) :
    rampUpdate x =
      { x with speed := rampValue r (r.elapsed + 2), ramp := some { r with elapsed := r.elapsed + 2 } } := by
  unfold rampUpdate
  rw [h]
  exact if_neg (by omega)

theorem rampUpdate_reached {x : Demand} {r : Ramp} (h : x.ramp = some r) (hlong : r.length ≤ r.elapsed + 2) :
    (rampUpdate x).speed = r.target := by
  unfold rampUpdate
  rw [h]
  dsimp only
  rw [if_pos (.inr hlong)]

/-- Settles O13: the ramp update, the step timer and the three messages. -/
theorem cycleStartSends : Obligations.CycleStartSends := by
  intro s
  obtain ⟨hdirection, hwheel, hlimit⟩ := rampUpdate_rest s.demand
  have hexec : exec .cycleStart s = .next (cycleStart s) := rfl
  have hsent : (cycleStart s).link.sent = [setpointMessage .input s.link.cycle (driveEnable s) (rampUpdate s.demand),
    setpointMessage .left s.link.cycle (driveEnable s) (rampUpdate s.demand),
    setpointMessage .right s.link.cycle (driveEnable s) (rampUpdate s.demand)] := rfl
  obtain ⟨hinput, hwheels⟩ := setpointMessage_setpoint s.link.cycle (driveEnable s) (rampUpdate s.demand)
  refine ⟨_, hexec, rfl, hdirection, hwheel, hlimit, rampUpdate_none, fun r hr hne hlong => ?_,
    fun r hr hlong => rampUpdate_reached hr hlong, rfl, _, _, _, hsent, fun m hm => ?_, rfl, rfl, rfl, hinput,
    hwheels .left (by decide), (hwheels .right (by decide)).trans (hwheels .left (by decide)).symm, fun m hm f hf => ?_⟩
  · have hdemand : (cycleStart s).demand = rampUpdate s.demand := rfl
    rw [hdemand, rampUpdate_under_way hr hne hlong]
    exact ⟨rfl, fun hup => if_pos hup, fun hdown => if_neg (by omega)⟩
  · rw [hsent] at hm
    obtain ⟨d, rfl⟩ : ∃ d, m = setpointMessage d s.link.cycle (driveEnable s) (rampUpdate s.demand) := by
      simp only [List.mem_cons, List.not_mem_nil, or_false] at hm
      rcases hm with h | h | h <;> exact ⟨_, h⟩
    obtain ⟨hlength, hcheck, -, hcycle, -⟩ :=
      setpointMessage_parts d s.link.cycle (driveEnable s) (rampUpdate s.demand)
    exact ⟨hlength, hcheck, hcycle⟩
  · rw [hsent] at hm
    obtain ⟨d, rfl⟩ : ∃ d, m = setpointMessage d s.link.cycle (driveEnable s) (rampUpdate s.demand) := by
      simp only [List.mem_cons, List.not_mem_nil, or_false] at hm
      rcases hm with h | h | h <;> exact ⟨_, h⟩
    obtain ⟨-, -, -, -, hflags⟩ := setpointMessage_parts d s.link.cycle (driveEnable s) (rampUpdate s.demand)
    obtain rfl : f = setpointFlags d (driveEnable s) (rampUpdate s.demand).direction :=
      Option.some.inj (hf.symm.trans hflags)
    rw [hdirection]
    exact setpointFlags_bits d (driveEnable s) s.demand.direction

/-! ## The miss counters (R63, R64) -/

/-- The drive lines after a cycle end. -/
def countedLines (l : PerDrive DriveLine) : PerDrive DriveLine := ⟨countMiss l.input, countMiss l.left, countMiss l.right⟩

theorem countedLines_get (l : PerDrive DriveLine) (d : DriveId) : (countedLines l).get d = countMiss (l.get d) := by
  cases d <;> rfl

/-- The state in which a cycle end looks for a lost drive. -/
def missesCounted (s : State) : State :=
  s.withLink { s.link with drives := countedLines s.link.drives, cycle := s.link.cycle + 1 }

theorem cycleEnd_eq (s : State) : cycleEnd s = reportLoss (missesCounted s) := rfl

theorem lostDrive_none {l : PerDrive DriveLine} (h : ∀ d, (l.get d).misses < 3) : lostDrive l = none := by
  rw [lostDrive, List.find?_eq_none]
  exact fun d _ => by simpa using h d

theorem lostDrive_some {l : PerDrive DriveLine} {d : DriveId} (h : 3 ≤ (l.get d).misses)
    (hfirst : ∀ e, driveNumber e < driveNumber d → (l.get e).misses < 3) : lostDrive l = some d := by
  have hbelow : ∀ e, driveNumber e < driveNumber d → ¬3 ≤ (l.get e).misses := fun e he => not_le.2 (hfirst e he)
  have hinput := hbelow .input
  have hleft := hbelow .left
  cases d <;> simp_all [lostDrive, allDrives, driveNumber]

end Sys2Proof.Machine
end


section
/-! SUPPORT. The ends of a test and the changes of mode, field by field: a decision (R152), a mode change, the entry to STOP or HALT
(R16, R18), and a latching (R70). -/

namespace Sys2Proof.Machine

/-! ## The routes and the marks of one source -/

/-- From one state to the other the routes and the marks of a source stay. -/
def MarksKept (i : Fin 11) (s t : State) : Prop :=
  t.events.routes = s.events.routes ∧ ∀ p, mark t i p = mark s i p

theorem MarksKept.of_events {i : Fin 11} {s t : State} (h : t.events = s.events) : MarksKept i s t :=
  ⟨by rw [h], fun p => by rw [mark, mark, h]⟩

theorem MarksKept.trans {i : Fin 11} {s t u : State} (h : MarksKept i s t) (h' : MarksKept i t u) : MarksKept i s u :=
  ⟨h'.1.trans h.1, fun p => (h'.2 p).trans (h.2 p)⟩

theorem raise_routes (e : Event) (s : State) : (raise e s).events.routes = s.events.routes := rfl

theorem marksKept_raise {i : Fin 11} {e : Event} (h : i ≠ e.source) (s : State) : MarksKept i s (raise e s) :=
  ⟨raise_routes e s, fun p => by rw [mark_raise, if_neg fun hcond => h hcond.1]⟩

/-- A raised event stands on the ports of its route, also after a change that keeps the marks of its source. -/
theorem mark_of_raise {e : Event} {s t : State} (h : MarksKept e.source (raise e s) t) {p : Port}
    (hroute : (routeOf s e.source).has p = true) : mark t e.source p = some e := by
  rw [h.2, mark_raise, if_pos ⟨rfl, hroute⟩]

theorem judgeMonitors_events (s : State) : (judgeMonitors s).events = s.events := by simp

theorem endContext_events (s : State) : (endContext s).events = s.events := by simp

theorem marksKept_abandonCheck {i : Fin 11} (hi : i ≠ 8) (s : State) : MarksKept i s (abandonCheck s) := by
  unfold abandonCheck
  split
  · exact (MarksKept.of_events rfl).trans (marksKept_raise hi _)
  · exact MarksKept.of_events rfl

theorem marksKept_abandonCheckOf {i : Fin 11} (hi : i ≠ 8) (p : CheckKind → Bool) (s : State) :
    MarksKept i s (abandonCheckOf p s) := by
  unfold abandonCheckOf
  split
  · split
    · exact marksKept_abandonCheck hi s
    · exact MarksKept.of_events rfl
  · exact MarksKept.of_events rfl

theorem marksKept_endTest {i : Fin 11} (hverdict : i ≠ 4) (hzero : i ≠ 8) (s : State) : MarksKept i s (endTest s) := by
  unfold endTest
  split
  · split
    · refine .trans ?_ (.of_events (endContext_events _))
      exact .trans (.of_events (by simp)) (.trans (marksKept_raise hverdict _)
        (.trans (.of_events rfl) (marksKept_abandonCheckOf hzero _ _)))
    · exact .of_events (by simp)
  · exact .of_events (by simp)

theorem modeLeft_events {i : Fin 11} (hi : i ≠ 8) (m : Mode) (s : State) : MarksKept i s (modeLeft m s) := by
  unfold modeLeft
  refine .trans (.of_events ?_) (marksKept_abandonCheckOf hi _ _)
  split <;> split <;> rfl

theorem marksKept_setMode {i : Fin 11} (hi : i ≠ 8) (m : Mode) (s : State) : MarksKept i s (setMode m s) := by
  rw [setMode_eq]
  have hwritten : MarksKept i s (modeWritten m s) := .trans (modeLeft_events hi m s) (.of_events rfl)
  split
  · exact .trans hwritten (.of_events (by simp))
  · exact hwritten

theorem marksKept_dropTarget {i : Fin 11} (hi : i ≠ 6) (s : State) : MarksKept i s (dropTarget s) := by
  unfold dropTarget
  split
  · exact .trans (.of_events rfl) (marksKept_raise hi _)
  · exact .of_events rfl

theorem marksKept_enterStopped {i : Fin 11} (hverdict : i ≠ 4) (hmode : i ≠ 6) (hzero : i ≠ 8) (m : Mode) (s : State) :
    MarksKept i s (enterStopped m s) := by
  have hleak : MarksKept i s (leakToVent s) := .of_events (by simp)
  exact hleak.trans ((marksKept_dropTarget hmode _).trans ((marksKept_endTest hverdict hzero _).trans
    ((marksKept_setMode hzero m _).trans (.of_events (judgeMonitors_events _)))))

theorem marksKept_stopCause {i : Fin 11} (hverdict : i ≠ 4) (hmode : i ≠ 6) (hzero : i ≠ 8) (s : State) :
    MarksKept i s (stopCause s) := by
  unfold stopCause
  split
  · exact marksKept_enterStopped hverdict hmode hzero _ s
  · exact .of_events rfl

/-! ## The decision (R152) -/

theorem endTest_queue (s : State) : (endTest s).queue = (post (decided s.ctx) s).queue := by
  unfold endTest
  cases hslot : onTestSlot s with
  | none => simp [post_none hslot]
  | some i =>
    obtain ⟨r, hr, -⟩ := onTestSlot_some hslot
    simp [post_some hslot, hr]

theorem recordAt_endTest (s : State) (i : Fin 16) :
    recordAt (endTest s) i = if onTestSlot s = some i then (recordAt s i).map (decided s.ctx) else recordAt s i := by
  rw [recordAt_congr (endTest_queue s), recordAt_post]

/-- What a decision leaves of a record: its verdict, its state and the outcomes of its sections are new. -/
theorem decided_spec (x : Option TestContext) (r : Record) :
    (decided x r).state = .decided ∧ (decided x r).faults = r.faults ∧ (decided x r).overflow = r.overflow ∧
    (decided x r).zero = r.zero ∧ (decided x r).verdict = some (deriveVerdict (decided x r)) :=
  ⟨rfl, rfl, rfl, rfl, rfl⟩

/-! ## A mode change -/

theorem modeLeft_frame (m : Mode) (s : State) :
    (modeLeft m s).mode = s.mode ∧ (modeLeft m s).store = s.store ∧ (modeLeft m s).demand = s.demand ∧
    (modeLeft m s).ctx = s.ctx ∧ (modeLeft m s).link = s.link ∧ (modeLeft m s).leak = s.leak ∧
    (modeLeft m s).queue = s.queue ∧ (modeLeft m s).ports = s.ports ∧
    (modeLeft m s).sup = { s.sup with
      supplyPause := if s.mode.mode = .pause ∧ m ≠ .pause then .stopped else s.sup.supplyPause } := by
  unfold modeLeft
  dsimp only
  split <;> split <;> simp [abandonBlock]

/-- A mode change writes the mode, the pause kind and the settle timer. -/
theorem setMode_controller (m : Mode) (s : State) :
    (setMode m s).mode =
      { s.mode with
        mode := m
        pauseKind := if m = .pause then s.mode.pauseKind else .none
        settleTimer := if m = .settle then s.mode.settleTimer else .stopped } := by
  obtain ⟨hmode, -⟩ := modeLeft_frame m s
  have hwritten : (modeWritten m s).mode = _ := congrArg (fun x : ModeController =>
    { x with mode := m, pauseKind := if m = Mode.pause then x.pauseKind else .none
             settleTimer := if m = Mode.settle then x.settleTimer else .stopped }) hmode
  rw [setMode_eq]
  split
  · simpa using hwritten
  · exact hwritten

/-- A mode change leaves of the supervision all but what the fall of DRIVE ENABLE stops, and the supply pause timer of a pause that it
ends. -/
theorem setMode_sup (m : Mode) (s : State) :
    (setMode m s).sup.lastOil = s.sup.lastOil ∧ (setMode m s).sup.latches = s.sup.latches ∧
    (setMode m s).sup.supplyPause =
      (if s.mode.mode = .pause ∧ m ≠ .pause then .stopped else s.sup.supplyPause) := by
  have hsup : (modeWritten m s).sup = (modeLeft m s).sup := rfl
  obtain ⟨-, -, -, -, -, -, -, -, hleft⟩ := modeLeft_frame m s
  rw [setMode_eq]
  split
  · simp [driveEnableFell, hsup, hleft, withdraw]
  · simp [hsup, hleft]

/-- With no check in progress a mode change abandons none. -/
theorem setMode_zero {s : State} (h : s.zero.check = none) (m : Mode) : (setMode m s).zero = s.zero ∧
    (setMode m s).events = s.events := by
  have habandon : ∀ t : State, t.zero = s.zero → t.events = s.events →
      (abandonCheckOf (fun k => !checkSurvives m k) t).zero = s.zero ∧
      (abandonCheckOf (fun k => !checkSurvives m k) t).events = s.events := fun t hzero hevents => by
    have hcheck : t.zero.check = none := by rw [hzero, h]
    rw [abandonCheckOf, hcheck]
    exact ⟨hzero, hevents⟩
  have hleft : (modeLeft m s).zero = s.zero ∧ (modeLeft m s).events = s.events := by
    unfold modeLeft
    dsimp only
    apply habandon <;> split <;> split <;> rfl
  rw [setMode_eq]
  split
  · simp only [driveEnableFell_frame]
    exact hleft
  · exact hleft

/-! ## The entry to STOP or HALT (R16, R18) -/

theorem dropTarget_controller (s : State) : (dropTarget s).mode = { s.mode with target := none } := by
  unfold dropTarget
  split
  · simp
  · rename_i h
    rw [← h]

theorem enterStopped_controller (m : Mode) (s : State) :
    (enterStopped m s).mode =
      { s.mode with
        mode := m, target := none
        pauseKind := if m = .pause then s.mode.pauseKind else .none
        settleTimer := if m = .settle then s.mode.settleTimer else .stopped } := by
  simp [enterStopped, setMode_controller, dropTarget_controller]

theorem enterStopped_demand (m : Mode) (s : State) : (enterStopped m s).demand = demandStopped s.demand := by
  simp [enterStopped]

theorem enterStopped_leak (m : Mode) (s : State) : (enterStopped m s).leak = (leakToVent s).leak := by
  simp [enterStopped]

theorem enterStopped_queue (m : Mode) (s : State) : (enterStopped m s).queue = (post (decided s.ctx) s).queue := by
  have hbefore : (dropTarget (leakToVent s)).queue = s.queue := by simp
  have hctx : (dropTarget (leakToVent s)).ctx = s.ctx := by simp
  simp only [enterStopped, judgeMonitors_frame, State.withDemand_queue, setMode_frame, endTest_queue, hctx]
  exact post_congr _ hbefore

theorem recordAt_enterStopped (m : Mode) (s : State) (i : Fin 16) :
    recordAt (enterStopped m s) i = if onTestSlot s = some i then (recordAt s i).map (decided s.ctx) else recordAt s i := by
  rw [recordAt_congr (enterStopped_queue m s), recordAt_post]

theorem judgeMonitors_supply (s : State) : (judgeMonitors s).sup.supplyPause = s.sup.supplyPause := by
  rw [judgeMonitors_eq]
  rfl

theorem judgeMonitors_sup (s : State) :
    (judgeMonitors s).sup = { s.sup with filters := (judgeMonitors s).sup.filters } := by
  rw [judgeMonitors_eq]
  rfl

/-! ## A latching (R70) -/

/-- The state of a report before its stop: a latch that is CLEAR is set, and one that is SET keeps its value. -/
def reported (k : LatchKind) (v : Nat) (s : State) : State := if latchSet s k then s else latched k v s

theorem latch_eq (k : LatchKind) (v : Nat) (s : State) :
    latch k v s = if k.stopClass then stopCause (reported k v s) else reported k v s := by
  cases h : latchSet s k with
  | true => rw [latch_of_set v h, reported, if_pos h]
  | false => rw [latch_of_clear v h, reported, h]; rfl

theorem stopFilterOf_sup (k : LatchKind) (s : State) :
    (stopFilterOf k s).sup = { s.sup with filters := (stopFilterOf k s).sup.filters } := by
  cases k <;> rfl

theorem latched_frame (k : LatchKind) (v : Nat) (s : State) :
    (latched k v s).mode = s.mode ∧ (latched k v s).store = s.store ∧ (latched k v s).demand = s.demand ∧
    (latched k v s).ctx = s.ctx ∧ (latched k v s).link = s.link ∧ (latched k v s).noise = s.noise ∧
    (latched k v s).leak = s.leak ∧ (latched k v s).zero = s.zero ∧ (latched k v s).conv = s.conv ∧
    (latched k v s).ports = s.ports ∧ (latched k v s).ticks = s.ticks ∧ (latched k v s).orders = s.orders ∧
    (latched k v s).pending = s.pending := by
  unfold latched
  dsimp only
  split <;> simp

theorem latched_sup (k : LatchKind) (v : Nat) (s : State) :
    (latched k v s).sup =
      { s.sup with
        latches := s.sup.latches.set k.index (some v), filters := (stopFilterOf k (storeLatch k v s)).sup.filters } := by
  have hsup : (latched k v s).sup = (stopFilterOf k (storeLatch k v s)).sup := by
    unfold latched
    dsimp only
    split <;> simp
  rw [hsup, stopFilterOf_sup]
  rfl

@[simp] theorem reported_frame (k : LatchKind) (v : Nat) (s : State) :
    (reported k v s).mode = s.mode ∧ (reported k v s).store = s.store ∧ (reported k v s).demand = s.demand ∧
    (reported k v s).ctx = s.ctx ∧ (reported k v s).link = s.link ∧ (reported k v s).noise = s.noise ∧
    (reported k v s).leak = s.leak ∧ (reported k v s).zero = s.zero ∧ (reported k v s).conv = s.conv ∧
    (reported k v s).ports = s.ports ∧ (reported k v s).ticks = s.ticks ∧ (reported k v s).orders = s.orders ∧
    (reported k v s).pending = s.pending := by
  unfold reported
  split
  · simp
  · exact latched_frame k v s

/-- A report leaves of the supervision all but the latches and the filter timers. -/
theorem reported_sup (k : LatchKind) (v : Nat) (s : State) :
    (reported k v s).sup =
      { s.sup with latches := (reported k v s).sup.latches, filters := (reported k v s).sup.filters } := by
  unfold reported
  split
  · rfl
  · rw [latched_sup]

theorem latchValue_latched (k j : LatchKind) (v : Nat) (s : State) :
    latchValue (latched k v s) j = if j = k then some v else latchValue s j := by
  rw [← latchValue_storeLatch, latchValue, latched_sup]
  rfl

/-- A report sets its latch to its value, or keeps the value of a latch that is SET, and touches no other latch. -/
theorem latchValue_reported (k j : LatchKind) (v : Nat) (s : State) :
    latchValue (reported k v s) j = if j = k then some ((latchValue s k).getD v) else latchValue s j := by
  unfold reported
  cases hset : latchValue s k with
  | some w =>
    rw [if_pos (by rw [latchSet, hset]; rfl)]
    split
    · subst j; exact hset
    · rfl
  | none =>
    rw [if_neg (by rw [latchSet, hset]; simp), latchValue_latched]
    rfl

theorem latchValue_congr {s t : State} (h : t.sup.latches = s.sup.latches) (k : LatchKind) :
    latchValue t k = latchValue s k := by
  rw [latchValue, latchValue, h]

theorem latchValue_latch (k j : LatchKind) (v : Nat) (s : State) :
    latchValue (latch k v s) j = if j = k then some ((latchValue s k).getD v) else latchValue s j := by
  rw [← latchValue_reported, latch_eq]
  split
  · exact latchValue_congr (stopCause_latches _) j
  · rfl

/-- A report of a STOP-class latch in an active mode enters STOP (R16). -/
theorem latch_stops {k : LatchKind} (hk : k.stopClass = true) {s : State} (hactive : s.mode.mode.active = true) (v : Nat) :
    latch k v s = enterStopped .stop (reported k v s) := by
  rw [latch_eq, if_pos hk, stopCause, if_pos (by simpa using hactive)]

/-- A report of a STOP-class latch in IDLE, STOP and HALT enters nothing. -/
theorem latch_stays {k : LatchKind} {s : State} (hactive : s.mode.mode.active = false) (v : Nat) :
    latch k v s = reported k v s := by
  rw [latch_eq, stopCause_of_inactive (by simpa using hactive)]
  split <;> rfl

/-- The queue after a report: the entry is appended where the latch was CLEAR, but for OIL PREWARN. -/
theorem reported_queue (k : LatchKind) (v : Nat) (s : State) :
    (reported k v s).queue =
      if latchSet s k = true ∨ k = .oilPrewarn then s.queue
      else (post (appendEntry ⟨.latch k, currentStep s, v⟩) s).queue := by
  unfold reported
  by_cases hset : latchSet s k = true
  · simp [hset]
  · rw [if_neg hset]
    by_cases hk : k = .oilPrewarn
    · simp [latched, hk]
    · have hstep : currentStep (stopFilterOf k (storeLatch k v s)) = currentStep s := by simp [currentStep]
      rw [if_neg (by simp [hset, hk])]
      simp only [latched, if_neg hk, raise_frame, appendFault, hstep]
      exact post_congr _ (by simp)

theorem onTestSlot_reported (k : LatchKind) (v : Nat) (s : State) : onTestSlot (reported k v s) = onTestSlot s := by
  by_cases h : latchSet s k = true ∨ k = .oilPrewarn
  · exact onTestSlot_congr (by rw [reported_queue, if_pos h])
  · have hqueue := reported_queue k v s
    rw [if_neg h] at hqueue
    rw [onTestSlot_congr hqueue, onTestSlot_post (appendEntry_state _)]

/-- The record ON TEST after a report of a latch that was CLEAR. -/
theorem recordAt_reported {k : LatchKind} {s : State} (hclear : latchSet s k = false) (hk : k ≠ .oilPrewarn) (v : Nat)
    {i : Fin 16} {r : Record} (hslot : onTestSlot s = some i) (hr : recordAt s i = some r) :
    recordAt (reported k v s) i = some (appendEntry ⟨.latch k, currentStep s, v⟩ r) := by
  have hqueue := reported_queue k v s
  rw [if_neg (by simp [hclear, hk])] at hqueue
  rw [recordAt_congr hqueue, recordAt_post, if_pos hslot, hr]
  rfl

theorem marksKept_reported {i : Fin 11} (hi : i ≠ 2) (k : LatchKind) (v : Nat) (s : State) :
    MarksKept i s (reported k v s) := by
  unfold reported
  split
  · exact .of_events rfl
  · unfold latched
    dsimp only
    refine .trans (.of_events ?_) (marksKept_raise hi _)
    split <;> simp

end Sys2Proof.Machine
end


section
/-! PROOFS. The causes of STOP and the expiries of supervision (spec/01, spec/05): O4, O5, O6, O15, O17 and O19. -/

namespace Sys2Proof.Machine

/-! ## The entry to STOP at a report -/

theorem endContext_supply (s : State) : (endContext s).sup.supplyPause = s.sup.supplyPause := by
  unfold endContext
  split
  · exact judgeMonitors_supply _
  · rfl

theorem endTest_supply (s : State) : (endTest s).sup.supplyPause = s.sup.supplyPause := by
  unfold endTest
  split
  · split
    · rw [endContext_supply]
      simp
    · exact endContext_supply s
  · exact endContext_supply s

theorem enterStopped_supply (m : Mode) (s : State) :
    (enterStopped m s).sup.supplyPause =
      if s.mode.mode = .pause ∧ m ≠ .pause then .stopped else s.sup.supplyPause := by
  obtain ⟨-, -, hpause⟩ := setMode_sup m (endTest (dropTarget (leakToVent s)))
  rw [enterStopped, judgeMonitors_supply, State.withDemand_sup, hpause]
  simp [endTest_supply, dropTarget_controller]

/-- The record ON TEST at an entry to STOP is decided as it then stands. -/
theorem recordAt_stopped {s : State} {i : Fin 16} {r : Record} (hslot : onTestSlot s = some i)
    (hr : recordAt s i = some r) (m : Mode) : recordAt (enterStopped m s) i = some (decided s.ctx r) := by
  rw [recordAt_enterStopped, if_pos hslot, hr]
  rfl

/-- A report of a STOP-class latch that was CLEAR decides the record ON TEST with the entry of the latch. -/
theorem recordAt_latch_stopped {k : LatchKind} {s : State} (hclear : latchSet s k = false) (hk : k ≠ .oilPrewarn) (v : Nat)
    {i : Fin 16} {r : Record} (hslot : onTestSlot s = some i) (hr : recordAt s i = some r) (m : Mode) :
    recordAt (enterStopped m (reported k v s)) i =
      some (decided s.ctx (appendEntry ⟨.latch k, currentStep s, v⟩ r)) := by
  have hslot' : onTestSlot (reported k v s) = some i := (onTestSlot_reported k v s).trans hslot
  rw [recordAt_stopped hslot' (recordAt_reported hclear hk v hslot hr)]
  simp

theorem latchValue_stopped (k j : LatchKind) (v : Nat) (m : Mode) (s : State) :
    latchValue (enterStopped m (reported k v s)) j =
      if j = k then some ((latchValue s k).getD v) else latchValue s j := by
  rw [latchValue_congr (enterStopped_latches m _), latchValue_reported]

/-! ## A lost guard (R2 to R4) -/

/-- The latch and the value of a lost guard input. -/
def lossOf : GuardInput → LatchKind × Nat
  | .estop => (.estop, 0)
  | .door => (.guard, 0)
  | .clamp1 => (.clamp, 1)
  | .clamp2 => (.clamp, 2)
  | .clamp3 => (.clamp, 3)
  | .clamp4 => (.clamp, 4)

theorem guardLoss_of_good {g : GuardLevels} (h : guardsGood g = true) (i : GuardInput) :
    guardsGood (setGuard g i false) = false ∧ guardChanged g (setGuard g i false) = true ∧
    guardLoss g (setGuard g i false) = some (lossOf i) := by
  obtain ⟨estop, door, clamp1, clamp2, clamp3, clamp4⟩ := g
  simp only [guardsGood, clamped, Bool.and_eq_true] at h
  obtain ⟨⟨rfl, rfl⟩, ⟨⟨rfl, rfl⟩, rfl⟩, rfl⟩ := h
  cases i <;> exact ⟨rfl, rfl, rfl⟩

theorem lossOf_stopClass (i : GuardInput) : (lossOf i).1.stopClass = true := by cases i <;> rfl

/-- The state in which a lost guard is reported: DRIVE ENABLE has fallen, and GUARD is raised. -/
def guardLost (i : GuardInput) (s : State) : State :=
  raise (.guard (setGuard s.mode.guards i false))
    (driveEnableFell (s.withMode { s.mode with guards := setGuard s.mode.guards i false }))

theorem guardInputChange_lost {s : State} (h : driveEnable s = true) (i : GuardInput) :
    guardInputChange i false s = enterStopped .stop (reported (lossOf i).1 (lossOf i).2 (guardLost i s)) := by
  obtain ⟨hactive, hgood⟩ := Bool.and_eq_true_iff.1 h
  obtain ⟨hbad, hchanged, hloss⟩ := guardLoss_of_good hgood i
  have hfell : driveEnable (s.withMode { s.mode with guards := setGuard s.mode.guards i false }) = false := by
    simp [driveEnable, hbad]
  have hlost : (guardLost i s).mode.mode.active = true := by simpa [guardLost] using hactive
  rw [← latch_stops (lossOf_stopClass i) hlost]
  unfold guardInputChange
  simp only [followEnable, h, hfell, hchanged, hloss, if_true, Bool.not_false, Bool.and_true]
  exact if_pos hlost

theorem leakToVent_request (s : State) :
    (leakToVent s).leak.request = if s.leak.phase = .vent then s.leak.request else .running 10 := by
  by_cases h : s.leak.phase = .vent
  · obtain ⟨hrequest, -⟩ := leakToVent_of_vent s h
    rw [if_pos h, hrequest]
  · rw [if_neg h]
    unfold leakToVent
    have hphase : (leakUndecided s).leak.phase ≠ .vent := by
      unfold leakUndecided
      split <;> exact h
    simp only [if_neg hphase]
    unfold leakEnterVent requestUnlessPending request
    dsimp only
    split <;> rfl

/-! ## LEAK's request at the end of a test -/

theorem abandonCheckOf_leakRequest (p : CheckKind → Bool) (s : State) :
    (abandonCheckOf p s).conv.waiting.leak = s.conv.waiting.leak := by
  unfold abandonCheckOf abandonCheck
  split
  · split
    · split
      · simp [withdraw, Arbiter.withdraw, PerRequester.set]
      · rfl
    · rfl
  · rfl

theorem endTest_leakRequest (s : State) : (endTest s).conv.waiting.leak = s.conv.waiting.leak := by
  unfold endTest
  split
  · split
    · simp [abandonCheckOf_leakRequest]
    · simp
  · simp

theorem setMode_leakRequest (m : Mode) (s : State) : (setMode m s).conv.waiting.leak = s.conv.waiting.leak := by
  have hleft : (modeWritten m s).conv.waiting.leak = s.conv.waiting.leak := by
    simp only [modeWritten, modeLeft, State.withMode_conv, abandonCheckOf_leakRequest]
    split <;> split <;> rfl
  rw [setMode_eq]
  split
  · simpa [driveEnableFell, withdraw, Arbiter.withdraw, PerRequester.set] using hleft
  · exact hleft

theorem enterStopped_leakRequest {s : State} (h : s.leak.phase = .vent) (m : Mode) :
    (enterStopped m s).conv.waiting.leak = none := by
  obtain ⟨-, hconv⟩ := leakToVent_of_vent s h
  simp [enterStopped, setMode_leakRequest, endTest_leakRequest, hconv, Arbiter.withdraw, PerRequester.set]

/-- Settles O4: the report of the lost guard, and the entry to STOP field by field. -/
theorem guardLossStops : Obligations.GuardLossStops := by
  intro i s henable
  have hexec : exec (.guardInputChange i false) s = .next (guardInputChange i false s) := rfl
  rw [hexec, guardInputChange_lost henable]
  obtain ⟨u, hu⟩ : ∃ u, u = guardLost i s := ⟨_, rfl⟩
  have hcontroller : u.mode = { s.mode with guards := setGuard s.mode.guards i false } := by simp [hu, guardLost]
  have hleak : u.leak = s.leak := by simp [hu, guardLost]
  have hlatches : u.sup.latches = s.sup.latches := by simp [hu, guardLost, driveEnableFell, withdraw]
  have hvalue : ∀ j, latchValue (enterStopped .stop (reported (lossOf i).1 (lossOf i).2 u)) j =
      if j = (lossOf i).1 then some ((latchValue s (lossOf i).1).getD (lossOf i).2) else latchValue s j := fun j => by
    rw [latchValue_stopped, latchValue_congr hlatches, latchValue_congr hlatches]
  rw [← hu]
  refine ⟨_, rfl, enterStopped_mode _ _, ?_, ?_, ?_, ?_, enterStopped_ctx _ _, ?_, ?_, ?_, ?_, ?_, ?_, fun hvent => ?_, ?_⟩
  · simp [enterStopped_controller, hcontroller]
  · simp [driveEnable, enterStopped_mode, Mode.active]
  · simp [enterStopped_controller]
  · simp [enterStopped_controller]
  · simp [enterStopped_demand, demandStopped]
  · simp [enterStopped_demand, demandStopped]
  · simp [enterStopped_demand, demandStopped]
  · intro kv
    have hkind : kv = lossOf i := by cases i <;> rfl
    rw [hkind]
    exact ⟨by rw [hvalue, if_pos rfl], fun k hk => by rw [hvalue, if_neg hk]⟩
  · rw [enterStopped_leak, leakToVent_phase]
  · rw [enterStopped_leak, leakToVent_request]
    simp [hleak]
  · exact enterStopped_leakRequest (by simpa [hleak] using hvent) _
  · simp [hu, guardLost]

/-! ## Lost drives (R64) -/

/-- Settles O15: the miss counters, and the report of the lowest drive lost. -/
theorem cycleEndCounts : Obligations.CycleEndCounts := by
  intro s
  have hexec : exec .cycleEnd s = .next (reportLoss (missesCounted s)) := rfl
  have hlink : (reportLoss (missesCounted s)).link = (missesCounted s).link := by
    unfold reportLoss
    split <;> simp
  have hlines : ∀ d, (reportLoss (missesCounted s)).link.drives.get d = countMiss (s.link.drives.get d) := fun d => by
    rw [hlink]
    exact countedLines_get _ d
  refine ⟨_, hexec, by rw [hlink]; rfl, fun d hgood => ?_, fun d hmissed => ?_, fun hfew => ?_, fun d hlost hfirst => ?_, ?_⟩
  · rw [hlines, countMiss, if_pos hgood]
  · rw [hlines, countMiss, if_neg (by simp [hmissed])]
  · have hnone : lostDrive (missesCounted s).link.drives = none := lostDrive_none fun d => by
      rw [← hlink]
      exact hfew d
    have hquiet : reportLoss (missesCounted s) = missesCounted s := by rw [reportLoss, hnone]
    rw [hquiet]
    rfl
  · have hsome : lostDrive (missesCounted s).link.drives = some d := by
      rw [← hlink]
      exact lostDrive_some hlost hfirst
    have hreport : reportLoss (missesCounted s) = latch .linkLoss (driveNumber d) (missesCounted s) := by
      rw [reportLoss, hsome]
    rw [hreport]
    refine ⟨by rw [latchValue_latch, if_pos rfl]; rfl, fun hactive => ?_, fun hinactive => ?_⟩
    · rw [latch_stops rfl (by exact hactive), enterStopped_mode]
    · rw [latch_stays (by exact hinactive)]
      simp [missesCounted]
  · unfold reportLoss
    split <;> simp [missesCounted]

/-! ## The supply pause and the NO STOP timers (R14, R47, R80) -/

/-- The record ON TEST has the SUPPLY entry either way (R80). -/
theorem recordAt_supplyEntry {s : State} {i : Fin 16} {r : Record} (hslot : onTestSlot s = some i)
    (hr : recordAt s i = some r) :
    onTestSlot (supplyEntry s) = some i ∧
    recordAt (supplyEntry s) i = some (appendEntry ⟨.latch .supply, currentStep s, supplyDrive s⟩ r) := by
  unfold supplyEntry
  cases hset : latchSet s .supply with
  | true =>
    rw [if_pos rfl, appendFault, onTestSlot_post (appendEntry_state _), recordAt_post, if_pos hslot, hr]
    exact ⟨hslot, rfl⟩
  | false =>
    rw [if_neg (by simp), latch_eq, if_neg (by decide), onTestSlot_reported]
    exact ⟨hslot, recordAt_reported hset (by decide) _ hslot hr⟩

theorem supplyEntry_frame (s : State) :
    (supplyEntry s).mode = s.mode ∧ (supplyEntry s).store = s.store ∧ (supplyEntry s).link = s.link ∧
    (supplyEntry s).ports = s.ports ∧ (supplyEntry s).pending = s.pending ∧ (supplyEntry s).ctx = s.ctx ∧
    latchSet (supplyEntry s) .supply = true := by
  unfold supplyEntry
  cases hset : latchSet s .supply with
  | true =>
    have hkept : latchSet (appendFault (.latch .supply) (supplyDrive s) s) .supply = latchSet s .supply := by
      simp [latchSet, latchValue]
    rw [if_pos rfl, hkept, hset]
    simp
  | false =>
    rw [if_neg (by simp), latchSet, latchValue_latch, if_pos rfl, latch_eq, if_neg (by decide)]
    simp

/-- Settles O5: the entry, the decision and the entry to STOP. -/
theorem supplyPauseExpiryStops : Obligations.SupplyPauseExpiryStops := by
  intro s i r hrun hmode hkind hslot hr hroom
  have hexec : exec .supplyPauseTimerExpiry s = .next (supplyPauseExpiry s) := rfl
  obtain ⟨u, hu⟩ : ∃ u, u = supplyEntry (s.withSup { s.sup with supplyPause := .stopped }) := ⟨_, rfl⟩
  obtain ⟨hcontroller, hstore, hlink, hports, hpending, hctx, hset⟩ :=
    supplyEntry_frame (s.withSup { s.sup with supplyPause := .stopped })
  obtain ⟨hslot', hr'⟩ := recordAt_supplyEntry (s := s.withSup { s.sup with supplyPause := .stopped }) hslot hr
  rw [← hu] at hcontroller hstore hlink hports hpending hctx hset hslot' hr'
  have hstop : supplyPauseExpiry s = enterStopped .stop u := by
    rw [supplyPauseExpiry, if_pos hrun]
    dsimp only
    rw [← hu, if_pos (by rw [hcontroller]; exact ⟨hmode, hkind⟩), stopCause,
      if_pos (by rw [hcontroller, State.withSup_mode, hmode]; rfl)]
  have hlatch : latchSet (enterStopped .stop u) .supply = latchSet u .supply := by
    rw [latchSet, latchValue_congr (enterStopped_latches _ _), latchSet]
  rw [hexec, hstop]
  refine ⟨_, rfl, enterStopped_mode _ _, by simp [enterStopped_controller], ?_, hlatch.trans hset, enterStopped_ctx _ _,
    ⟨_, recordAt_stopped hslot' hr' _, rfl, ?_⟩, by simpa using hstore, by simpa using hlink, by simpa using hports,
    by simpa using hpending⟩
  · rw [enterStopped_supply, if_pos]
    rw [hcontroller, State.withSup_mode, hmode]
    decide
  · rw [appendEntry_room hroom]
    rfl

/-- Settles O6: NO STOP is reported in SETTLE, and in RUN and PAUSE with the standstill timer over. -/
theorem noStopTimers : Obligations.NoStopTimers := by
  refine ⟨fun s hmode hrun => ?_, fun s c hc hrun hmode => ?_⟩
  · have hexec : exec .settleTimerExpiry s = .next (settleExpiry s) := rfl
    have hactive : s.mode.mode.active = true := by rw [hmode]; rfl
    rw [hexec, settleExpiry, if_pos ⟨hrun, hmode⟩, latch_stops rfl hactive]
    refine ⟨_, rfl, enterStopped_mode _ _, by simp [enterStopped_controller], by simp [enterStopped_controller],
      by rw [latchValue_stopped, if_pos rfl], fun k hk => by rw [latchValue_stopped, if_neg hk], ?_⟩
    simp
  · have hexec : exec .standstillTimerExpiry s = .next (standstillExpiry s) := rfl
    have hactive : s.mode.mode.active = true := by rcases hmode with h | h <;> rw [h] <;> rfl
    have hstop : standstillExpiry s = enterStopped .stop
        (reported .noStop (highestSpeed s) (s.withCtx (some { c with standstill := .stopped }))) := by
      rw [standstillExpiry, hc]
      dsimp only
      rw [if_pos hrun]
      exact latch_stops rfl (by exact hactive) _
    rw [hexec, hstop]
    refine ⟨_, rfl, enterStopped_mode _ _, enterStopped_ctx _ _, by rw [latchValue_stopped, if_pos rfl]; rfl,
      fun i r hslot hr => ?_, by simp [enterStopped_demand, demandStopped], by simp [enterStopped_demand, demandStopped], ?_⟩
    · have hslot' : onTestSlot
          (reported .noStop (highestSpeed s) (s.withCtx (some { c with standstill := .stopped }))) = some i :=
        (onTestSlot_reported _ _ _).trans hslot
      obtain ⟨r', hr', -⟩ := onTestSlot_some hslot'
      exact ⟨_, recordAt_stopped hslot' hr' _, rfl⟩
    · simp

/-! ## The dwell's end and the run time (R44, R45, R55) -/

theorem runSequence_last {n : Nat} {a : SeqAction} {s t : State} (h : seqAct a s = (t, none)) :
    runSequence (n + 1) a s = t := by
  rw [runSequence, h]

theorem runSequence_then {n : Nat} {a b : SeqAction} {s t : State} (h : seqAct a s = (t, some b)) :
    runSequence (n + 1) a s = runSequence n b t := by
  rw [runSequence, h]

/-- An action that nothing follows is all of its sequence. -/
theorem sequence_last {a : SeqAction} {s t : State} (h : seqAct a s = (t, none)) : sequence a s = t := runSequence_last h

/-- The demand of a step's ramp (R45, R48). -/
def rampDemand (c : TestContext) (x : Demand) : Demand :=
  { x with
    wheel := if stepFlank c.copy c.step = .drive then -(wheelTorque c.copy c.step : Int) else (wheelTorque c.copy c.step : Int)
    ramp := some ⟨x.speed, inputSpeed c.copy c.step, rampTime c.copy c.step, 0⟩ }

theorem wheelSetpoint_eq (c : TestContext) :
    wheelSetpoint c =
      if stepFlank c.copy c.step = .drive then -(wheelTorque c.copy c.step : Int) else (wheelTorque c.copy c.step : Int) := by
  unfold wheelSetpoint
  cases stepFlank c.copy c.step <;> rfl

/-- The entry into RAMP of a step with a RAMP TIME above 0 ends the event's sequence. -/
theorem sequence_enterRamp {s : State} {c : TestContext} (hc : s.ctx = some c) (htime : rampTime c.copy c.step ≠ 0) :
    sequence .enterRamp s =
      referenceChange ((s.withCtx (some { c with phase := .ramp })).withDemand (rampDemand c s.demand)) := by
  refine sequence_last ?_
  rw [seqAct, hc]
  simp only [enterRamp, startRamp, if_neg htime, wheelSetpoint_eq]
  rfl

theorem referenceChange_eq (s : State) : referenceChange s = s.withSup (referenceChange s).sup := by
  apply State.eq_of_fields <;> simp

/-- Settles O17: the turn and the ramp at the dwell's end, and the post of the run time. -/
theorem dwellAndRunTime : Obligations.DwellAndRunTime := by
  refine ⟨fun s c hc hdwell hmode htime => ?_, fun s i r x hc hslot hr hrunIn => ?_⟩
  · obtain ⟨u, hu⟩ : ∃ u, u = (s.withDemand { s.demand with direction := stepDirection c.copy c.step }).withCtx
        (some { c with phase := .ramp, dwell := .stopped, standstill := .stopped }) := ⟨_, rfl⟩
    have hexec : exec .dwellTimerExpiry s = .next (dwellExpiry s) := rfl
    have hturn : dwellExpiry s = sequence .enterRamp u := by
      rw [dwellExpiry, hc]
      dsimp only
      rw [if_pos hdwell, dwellEnd]
      dsimp only
      rw [if_pos (by exact hmode), hu]
    have huctx : u.ctx = some { c with phase := .ramp, dwell := .stopped, standstill := .stopped } := by rw [hu]; rfl
    rw [sequence_enterRamp huctx (by exact htime), referenceChange_eq] at hturn
    rw [hexec, hturn]
    refine ⟨_, rfl, by rw [hu]; rfl, ?_⟩
    rw [State.withSup_sup, referenceChange_latches, hu]
    rfl
  · have hexec : exec .runTimeTick s = .next (runTimeTick s) := rfl
    rw [hexec, runTimeTick, if_pos hc, postRunIn]
    refine ⟨_, rfl, by apply State.eq_of_fields <;> simp, post_nextSeq _ _, ?_, fun j hj => ?_⟩
    · rw [recordAt_post, if_pos hslot, hr, Option.map_some, hrunIn]
      rfl
    · rw [recordAt_post, if_neg]
      rw [hslot]
      exact fun h => hj (Option.some.inj h).symm

/-! ## The expiries of supervision (R69 to R76) -/

theorem monitorLatch_stopClass (m : FilteredMonitor) :
    (monitorLatch m).stopClass = true ∧ monitorLatch m ≠ .oilPrewarn ∧ (FaultKind.latch (monitorLatch m)).axle = true := by
  cases m <;> decide

/-- An entry of axle class makes the verdict FAIL (R153). -/
theorem deriveVerdict_axle {r : Record} {e : FaultEntry} (he : e ∈ r.faults) (haxle : e.kind.axle = true) :
    deriveVerdict r = .fail := by
  have hany : (r.faults.any fun e => e.kind.axle) = true := List.any_eq_true.2 ⟨e, he, haxle⟩
  rw [deriveVerdict, hany]
  rfl

theorem mark_reported {k : LatchKind} {s : State} (hclear : latchSet s k = false) (v : Nat) {q : Port}
    (hroute : (routeOf s 2).has q = true) : mark (reported k v s) 2 q = some (.fault k v) := by
  rw [reported, if_neg (by simp [hclear])]
  unfold latched
  dsimp only
  refine mark_of_raise (e := .fault k v) (.of_events rfl) ?_
  have hevents : (if k = .oilPrewarn then stopFilterOf k (storeLatch k v s)
      else appendFault (.latch k) v (stopFilterOf k (storeLatch k v s))).events = s.events := by split <;> simp
  rw [routeOf, hevents]
  exact hroute

theorem enterStopped_stale {m : Mode} {s : State} (h : s.sup.stale = .stopped) :
    (enterStopped m s).sup.stale = .stopped ∧ (enterStopped m s).sup.lastOil = s.sup.lastOil := by
  have hcontext : ∀ t : State, (endContext t).sup.stale = t.sup.stale ∧ (endContext t).sup.lastOil = t.sup.lastOil := fun t => by
    unfold endContext
    split
    · rw [referenceChange, judgeMonitors_eq]
      exact ⟨rfl, rfl⟩
    · exact ⟨rfl, rfl⟩
  have hend : ∀ t : State, (endTest t).sup.stale = t.sup.stale ∧ (endTest t).sup.lastOil = t.sup.lastOil := fun t => by
    unfold endTest
    split
    · split
      · obtain ⟨hstale, hoil⟩ := hcontext (abandonCheckOf (· == .endOfTest) _)
        exact ⟨hstale.trans (by simp), hoil.trans (by simp)⟩
      · exact hcontext t
    · exact hcontext t
  obtain ⟨hstale, hoil⟩ := hend (dropTarget (leakToVent s))
  have hmode : (setMode m (endTest (dropTarget (leakToVent s)))).sup.stale = .stopped := by
    obtain ⟨-, -, -, -, -, -, -, -, hleft⟩ := modeLeft_frame m (endTest (dropTarget (leakToVent s)))
    rw [setMode_eq]
    split
    · rfl
    · have hwritten : (modeWritten m (endTest (dropTarget (leakToVent s)))).sup =
          (modeLeft m (endTest (dropTarget (leakToVent s)))).sup := rfl
      rw [hwritten, hleft]
      simpa [hstale] using h
  obtain ⟨hlast, -, -⟩ := setMode_sup m (endTest (dropTarget (leakToVent s)))
  rw [enterStopped, judgeMonitors_eq]
  exact ⟨hmode, (hlast.trans hoil).trans (by simp)⟩

theorem failingWheel_iff (s : State) (p : Nat → Bool) (v : Nat) :
    failingWheel s p = some v ↔
      (p (torqueOf s .left) = true ∧ v = torqueOf s .left) ∨
      (¬p (torqueOf s .left) = true ∧ p (torqueOf s .right) = true ∧ v = torqueOf s .right) := by
  unfold failingWheel
  by_cases hleft : p (torqueOf s .left) = true
  · simp [hleft, @eq_comm _ v]
  · by_cases hright : p (torqueOf s .right) = true
    · simp [hleft, hright, @eq_comm _ v]
    · simp [hleft, hright]

theorem moving_iff (c : TestContext) : c.phase.moving = true ↔ c.phase = .ramp ∨ c.phase = .hold := by
  cases c.phase <;> simp [Phase.moving]

/-- WHEEL OVERLOAD's reference in RAMP and HOLD of RUN, and everywhere else (R73). -/
theorem wheelReference_moving {s : State} {c : TestContext} (hc : s.ctx = some c) (hmode : s.mode.mode = .run)
    (hphase : c.phase = .ramp ∨ c.phase = .hold) :
    wheelReference s = (wheelTorque c.copy c.step, torqueBand c.copy c.step) := by
  simp [wheelReference, hc, hmode, (moving_iff c).2 hphase]

theorem wheelReference_resting {s : State}
    (h : ∀ c, s.ctx = some c → s.mode.mode = .run → c.phase ≠ .ramp ∧ c.phase ≠ .hold) : wheelReference s = (0, 0) := by
  unfold wheelReference
  split
  · rename_i c hc
    refine if_neg fun hmoving => ?_
    obtain ⟨hmode, hphase⟩ := Bool.and_eq_true_iff.1 hmoving
    obtain ⟨hramp, hhold⟩ := h c hc (by simpa using hmode)
    exact ((moving_iff c).1 hphase).elim hramp hhold
  · rfl

theorem monitorActive_noReaction (s : State) :
    monitorActive s .noReaction = true ↔ driveEnable s = true ∧ s.mode.mode = .run ∧
      ∃ c, s.ctx = some c ∧ c.phase = .hold ∧ 500 ≤ wheelTorque c.copy c.step := by
  cases hc : s.ctx with
  | none => simp [monitorActive, hc]
  | some c => simp [monitorActive, hc, and_assoc]

theorem monitorActive_diff (s : State) :
    monitorActive s .diff = true ↔ driveEnable s = true ∧ (s.mode.mode = .run ∨ s.mode.mode = .pause) ∧
      ∃ c, s.ctx = some c ∧ diffLock c.copy c.step = true := by
  cases hc : s.ctx with
  | none => simp [monitorActive, hc]
  | some c => simp [monitorActive, hc, and_assoc]

/-- Settles O19: the report at each expiry, and the monitors by their rules. -/
theorem expiriesLatch : Obligations.ExpiriesLatch := by
  refine ⟨fun m v s hrun hclear hfails hactive => ?_, fun s n hrun hlong hclear hactive => ?_, fun s hrun => ?_, fun s => ?_⟩
  · obtain ⟨hstop, hkind, haxle⟩ := monitorLatch_stopClass m
    obtain ⟨u, hu⟩ : ∃ u, u = setFilter m .stopped s := ⟨_, rfl⟩
    have hvalue : ∀ k, latchValue u k = latchValue s k := fun k => by rw [hu]; rfl
    have hexec : exec (.filterTimerExpiry m) s = .next (filterExpiry m s) := rfl
    have hexpiry : filterExpiry m s = enterStopped .stop (reported (monitorLatch m) v u) := by
      rw [filterExpiry, if_pos hrun, hfails, ← hu]
      exact latch_stops hstop (by rw [hu]; simpa using hactive) v
    have hnone : latchValue s (monitorLatch m) = none := by simpa [latchSet] using hclear
    have hclear' : latchSet u (monitorLatch m) = false := by rw [latchSet, hvalue]; exact hclear
    have hqueue : u.queue = s.queue := by rw [hu]; simp
    have hctx : u.ctx = s.ctx := by rw [hu]; simp
    rw [hexec, hexpiry]
    refine ⟨_, rfl, ?_, fun k hk => ?_, enterStopped_mode _ _, by simp [enterStopped_controller], fun q hroute => ?_,
      fun i r hslot hr hroom => ?_, by simp [hu]⟩
    · rw [latchValue_stopped, if_pos rfl, hvalue, hnone]
      rfl
    · rw [latchValue_stopped, if_neg hk, hvalue]
    · obtain ⟨-, hmarks⟩ := marksKept_enterStopped (i := 2) (by decide) (by decide) (by decide) .stop
        (reported (monitorLatch m) v u)
      rw [hmarks]
      exact mark_reported hclear' v (by rw [hu]; exact hroute)
    · have hslot' : onTestSlot u = some i := (onTestSlot_congr hqueue).trans hslot
      have hr' : recordAt u i = some r := (recordAt_congr hqueue i).trans hr
      have hstep : currentStep u = currentStep s := by rw [currentStep, hctx, currentStep]
      refine ⟨_, recordAt_latch_stopped hclear' hkind v hslot' hr' _, ?_, ?_⟩
      · rw [hstep, appendEntry_room hroom]
        rfl
      · rw [appendEntry_room hroom]
        exact congrArg some (deriveVerdict_axle (e := ⟨.latch (monitorLatch m), currentStep u, v⟩)
          (List.mem_append_right _ List.mem_cons_self) haxle)
  · have hexec : exec .staleTimerExpiry s = .next (staleExpiry s) := rfl
    have hhas : s.sup.stale.hasRun Config.staleMs = true := by rw [hrun]; exact decide_eq_true hlong
    have hexpiry : staleExpiry s = enterStopped .stop
        (reported .tempStale (s.sup.lastOil.getD 0) (s.withSup { s.sup with stale := .stopped })) := by
      rw [staleExpiry, if_pos hhas]
      exact latch_stops rfl (by exact hactive) _
    have hnone : latchValue s .tempStale = none := by simpa [latchSet] using hclear
    obtain ⟨hstale, hoil⟩ := enterStopped_stale (m := .stop)
      (s := reported .tempStale (s.sup.lastOil.getD 0) (s.withSup { s.sup with stale := .stopped }))
      (by rw [reported_sup]; rfl)
    rw [hexec, hexpiry]
    refine ⟨_, rfl, ?_, fun k hk => ?_, hstale, enterStopped_mode _ _, hoil.trans (by rw [reported_sup]; rfl), by simp⟩
    · have hkept : ∀ x, latchValue (s.withSup { s.sup with stale := x }) .tempStale = none := fun _ => hnone
      rw [latchValue_stopped, if_pos rfl, hkept]
      rfl
    · rw [latchValue_stopped, if_neg hk]
      rfl
  · have hexec : exec .staleTimerExpiry s = .next (staleExpiry s) := rfl
    rw [hexec, staleExpiry, if_neg (by rw [hrun]; decide)]
  · intro torque apart wheel
    have hwheel : ∀ (p : Nat → Bool) (v : Nat), failingWheel s p = some v ↔ wheel (fun x => p x = true) v := fun p v =>
      failingWheel_iff s p v
    refine ⟨⟨rfl, rfl, monitorActive_noReaction s, monitorActive_diff s⟩, fun v => ?_, fun c v hc => ?_,
      fun c v hc hmode hphase => ?_, fun v hrest => ?_, fun v => ?_, ?_, fun m => ?_⟩
    · have hfails : monitorFails s .overload = if s.demand.limit < torque .input then some (torque .input) else none := rfl
      rw [hfails]
      split <;> simp_all [@eq_comm _ v]
    · have hfails : monitorFails s .noReaction =
          failingWheel s fun x => x * 100 < wheelTorque c.copy c.step * (100 - torqueBand c.copy c.step) := by
        simp only [monitorFails, hc]
      rw [hfails, hwheel]
      simp only [decide_eq_true_eq]
    · have hfails : monitorFails s .wheelOverload = failingWheel s fun x =>
          wheelTorque c.copy c.step * (100 + torqueBand c.copy c.step) + 20000 < x * 100 := by
        simp only [monitorFails, wheelReference_moving hc hmode hphase]
      rw [hfails, hwheel]
      simp only [decide_eq_true_eq]
    · have hfails : monitorFails s .wheelOverload = failingWheel s fun x => 200 < x := by
        simp only [monitorFails, wheelReference_resting hrest]
        refine congrArg _ (funext fun x => ?_)
        rw [decide_eq_decide]
        omega
      rw [hfails, hwheel]
      simp only [decide_eq_true_eq]
    · have hfails : monitorFails s .diff = if 5 < apart then some apart else none := rfl
      rw [hfails]
      split <;> simp_all [@eq_comm _ v]
    · rw [← judgeMonitors_sup]
      apply State.eq_of_fields <;> simp
    · rw [judgeMonitors_filters, judgedTimer]
      cases m <;> rfl

end Sys2Proof.Machine
end


section
/-! SUPPORT. What the ends of a test and the changes of mode leave alone, and targets: SETTLE and what reaches them (R13, R14). -/

namespace Sys2Proof.Machine

/-! ## The settings of every block -/

/-- The Zero Check without the check in progress and the unchecked count. -/
def zeroRest (z : ZeroCheck) : ZeroCheck := { z with check := none, timer := .stopped, unchecked := 0 }

/-- The arbiter's settings and its last pressure reading. -/
def convRest (a : Arbiter) : Option Nat × PerRequester Class × Bool := (a.lastP, a.classes, a.spotMasked)

/-- What neither a decision nor a change of mode touches. -/
structure SettingsKept (s t : State) : Prop where
  store : t.store = s.store
  link : t.link = s.link
  ports : t.ports = s.ports
  pending : t.pending = s.pending
  guards : t.mode.guards = s.mode.guards
  seen : t.mode.seen = s.mode.seen
  routes : t.events.routes = s.events.routes
  nextSeq : t.queue.nextSeq = s.queue.nextSeq
  zero : zeroRest t.zero = zeroRest s.zero
  conv : convRest t.conv = convRest s.conv

theorem SettingsKept.rfl {s : State} : SettingsKept s s := by constructor <;> rfl

theorem SettingsKept.trans {s t u : State} (h : SettingsKept s t) (h' : SettingsKept t u) : SettingsKept s u where
  store := h'.store.trans h.store
  link := h'.link.trans h.link
  ports := h'.ports.trans h.ports
  pending := h'.pending.trans h.pending
  guards := h'.guards.trans h.guards
  seen := h'.seen.trans h.seen
  routes := h'.routes.trans h.routes
  nextSeq := h'.nextSeq.trans h.nextSeq
  zero := h'.zero.trans h.zero
  conv := h'.conv.trans h.conv

theorem settled_of_kept {s t : State} (h : SettingsKept s t) : Settled t ↔ Settled s := by
  have hzero := h.zero
  have hconv := h.conv
  simp only [zeroRest, ZeroCheck.mk.injEq, convRest, Prod.mk.injEq] at hzero hconv
  obtain ⟨href, hvalid, -, -, -, -, -, -, -, hoffset, -⟩ := hzero
  exact settled_congr (fun d => by rw [held, h.link, held]) hconv.1 href hvalid hoffset

theorem convRest_withdraw (r : Requester) (a : Arbiter) : convRest (a.withdraw r) = convRest a := rfl

theorem convRest_takeRequest (r : Requester) (a : Arbiter) : convRest (takeRequest r a) = convRest a := by
  unfold takeRequest
  split <;> rfl

theorem convRest_grant (a : Arbiter) : convRest (grant a) = convRest a := by
  have hrequest : ∀ a, convRest (grantRequest a) = convRest a := fun a => by
    unfold grantRequest
    split
    · exact convRest_takeRequest _ _
    · split
      · exact convRest_takeRequest _ _
      · split
        · exact convRest_takeRequest _ _
        · rfl
  unfold grant
  split
  · rfl
  · exact hrequest _

theorem convRest_request (r : Requester) (q : Request) (a : Arbiter) : convRest (a.request r q) = convRest a := by
  unfold Arbiter.request
  dsimp only
  split
  · exact convRest_grant _
  · rfl

theorem kept_withCtx (s : State) (x : Option TestContext) : SettingsKept s (s.withCtx x) := by constructor <;> rfl
theorem kept_withDemand (s : State) (x : Demand) : SettingsKept s (s.withDemand x) := by constructor <;> rfl
theorem kept_withSup (s : State) (x : Supervision) : SettingsKept s (s.withSup x) := by constructor <;> rfl
theorem kept_withLeak (s : State) (x : LeakController) : SettingsKept s (s.withLeak x) := by constructor <;> rfl
theorem kept_raise (e : Event) (s : State) : SettingsKept s (raise e s) := by constructor <;> rfl
theorem kept_withdraw (r : Requester) (s : State) : SettingsKept s (withdraw r s) := by constructor <;> rfl
theorem kept_abandonBlock (s : State) : SettingsKept s (abandonBlock s) := by constructor <;> rfl

theorem kept_withMode (s : State) {x : ModeController} (hguards : x.guards = s.mode.guards) (hseen : x.seen = s.mode.seen) :
    SettingsKept s (s.withMode x) :=
  ⟨rfl, rfl, rfl, rfl, hguards, hseen, rfl, rfl, rfl, rfl⟩

theorem kept_withTarget (x : Option Target) (s : State) : SettingsKept s (s.withMode { s.mode with target := x }) := by
  constructor <;> rfl

theorem kept_request (r : Requester) (q : Request) (s : State) : SettingsKept s (request r q s) :=
  ⟨rfl, rfl, rfl, rfl, rfl, rfl, rfl, rfl, rfl, convRest_request r q s.conv⟩

theorem kept_requestUnlessPending (r : Requester) (q : Request) (s : State) :
    SettingsKept s (requestUnlessPending r q s) := by
  unfold requestUnlessPending
  split
  · exact .rfl
  · exact kept_request r q s

theorem kept_post (f : Record → Record) (s : State) : SettingsKept s (post f s) :=
  ⟨by simp, by simp, by simp, by simp, by simp, by simp, by simp, post_nextSeq f s, by simp, by simp⟩

theorem kept_leakLeave (s : State) : SettingsKept s (leakLeave s) := (kept_withdraw .leak s).trans (kept_withLeak _ _)

theorem kept_leakUndecided (s : State) : SettingsKept s (leakUndecided s) := by
  unfold leakUndecided
  split
  · exact kept_withLeak _ _
  · exact .rfl

theorem kept_leakToVent (s : State) : SettingsKept s (leakToVent s) := by
  unfold leakToVent
  dsimp only
  split
  · exact (kept_leakUndecided s).trans ((kept_leakLeave _).trans (kept_withLeak _ _))
  · exact (kept_leakUndecided s).trans ((kept_leakLeave _).trans ((kept_withLeak _ _).trans (kept_requestUnlessPending _ _ _)))

theorem kept_judgeMonitors (s : State) : SettingsKept s (judgeMonitors s) := by constructor <;> simp

theorem kept_referenceChange (s : State) : SettingsKept s (referenceChange s) := by constructor <;> simp

theorem kept_abandonCheckOf (p : CheckKind → Bool) (s : State) : SettingsKept s (abandonCheckOf p s) := by
  unfold abandonCheckOf abandonCheck
  split
  · split
    · split
      · exact (kept_withdraw .zero s).trans (by constructor <;> rfl)
      · exact .rfl
    · exact .rfl
  · exact .rfl

theorem kept_abandonCheck (s : State) : SettingsKept s (abandonCheck s) := by
  unfold abandonCheck
  split
  · exact (kept_withdraw .zero s).trans (by constructor <;> rfl)
  · exact .rfl

theorem kept_endContext (s : State) : SettingsKept s (endContext s) := by constructor <;> simp

theorem modifyRecord_of_onTestSlot {s : State} {i : Fin 16} (h : onTestSlot s = some i) (f : Record → Record) :
    SettingsKept s (modifyRecord i f s) := by
  rw [← post_some h]
  exact kept_post f s

theorem kept_endTest (s : State) : SettingsKept s (endTest s) := by
  unfold endTest
  split
  case h_1 i hslot =>
    split
    case h_1 r _ =>
      have hcount : ∀ t : State, SettingsKept t (t.withZero (countUnchecked r t.zero)) := fun t => by
        unfold countUnchecked
        split <;> constructor <;> rfl
      exact (modifyRecord_of_onTestSlot hslot _).trans ((kept_raise _ _).trans ((hcount _).trans
        ((kept_abandonCheckOf _ _).trans (kept_endContext _))))
    case h_2 => exact kept_endContext s
  case h_2 => exact kept_endContext s

theorem kept_driveEnableFell (s : State) : SettingsKept s (driveEnableFell s) :=
  (kept_withdraw .oil s).trans (kept_withSup _ _)

theorem kept_modeLeft (m : Mode) (s : State) : SettingsKept s (modeLeft m s) := by
  unfold modeLeft
  refine .trans ?_ (kept_abandonCheckOf _ _)
  split <;> split <;> constructor <;> rfl

theorem kept_setMode (m : Mode) (s : State) : SettingsKept s (setMode m s) := by
  have hwritten : SettingsKept s (modeWritten m s) := (kept_modeLeft m s).trans (kept_withMode _ rfl rfl)
  rw [setMode_eq]
  split
  · exact hwritten.trans (kept_driveEnableFell _)
  · exact hwritten

theorem kept_dropTarget (s : State) : SettingsKept s (dropTarget s) := by
  unfold dropTarget
  split
  · exact (kept_withTarget none s).trans (kept_raise _ _)
  · exact .rfl

theorem kept_enterStopped (m : Mode) (s : State) : SettingsKept s (enterStopped m s) :=
  (kept_leakToVent s).trans ((kept_dropTarget _).trans ((kept_endTest _).trans ((kept_setMode m _).trans
    ((kept_withDemand _ _).trans (kept_judgeMonitors _)))))

theorem kept_clearLatches (s : State) : SettingsKept s (clearLatches s) :=
  (kept_withSup s _).trans (kept_judgeMonitors _)

/-! ## Targets (R13, R14) -/

/-- The state in which a pending target has been reached. -/
def targetReached (x : Target) (s : State) : State :=
  let s := setMode x.mode (s.withDemand (demandStopped s.demand))
  judgeMonitors (raise (.mode x.mode .reached) (s.withMode { s.mode with target := none }))

theorem completionCheck_reached {s : State} {x : Target} (htarget : s.mode.target = some x)
    (h : targetComplete s = true) : completionCheck s = targetReached x s := by
  simp only [completionCheck, htarget, h, if_true]
  rfl

theorem completionCheck_pending {s : State} (h : targetComplete s = false) : completionCheck s = s := by
  simp [completionCheck, h]
  cases s.mode.target <;> rfl

theorem kept_targetReached (x : Target) (s : State) : SettingsKept s (targetReached x s) := by
  have hmode := (kept_withDemand s (demandStopped s.demand)).trans (kept_setMode x.mode _)
  exact (hmode.trans (kept_withTarget none _)).trans ((kept_raise _ _).trans (kept_judgeMonitors _))

theorem kept_completionCheck (s : State) : SettingsKept s (completionCheck s) := by
  cases h : targetComplete s with
  | false => rw [completionCheck_pending h]; exact .rfl
  | true =>
    cases htarget : s.mode.target with
    | none => simp only [completionCheck, htarget]; exact .rfl
    | some x => rw [completionCheck_reached htarget h]; exact kept_targetReached x s

theorem targetReached_controller (x : Target) (s : State) :
    (targetReached x s).mode =
      { s.mode with mode := x.mode, target := none, pauseKind := .none, settleTimer := .stopped } := by
  cases x <;> simp [targetReached, setMode_controller, Target.mode]

theorem targetReached_demand (x : Target) (s : State) : (targetReached x s).demand = demandStopped s.demand := by
  simp [targetReached]

theorem targetReached_frame (x : Target) (s : State) :
    (targetReached x s).ctx = s.ctx ∧ (targetReached x s).queue = s.queue ∧ (targetReached x s).leak = s.leak := by
  simp [targetReached]

theorem targetReached_latches (x : Target) (s : State) : (targetReached x s).sup.latches = s.sup.latches := by
  simp [targetReached, judgeMonitors_latches, setMode_latches]

theorem mark_targetReached (x : Target) {s : State} {q : Port} (hroute : (routeOf s 6).has q = true) :
    mark (targetReached x s) 6 q = some (.mode x.mode .reached) := by
  obtain ⟨hroutes, -⟩ := marksKept_setMode (i := 6) (by decide) x.mode (s.withDemand (demandStopped s.demand))
  refine mark_of_raise (e := .mode x.mode .reached) (.of_events (judgeMonitors_events _)) ?_
  change ((setMode x.mode (s.withDemand (demandStopped s.demand))).events.routes[(6 : Fin 11)]).has q = true
  rw [hroutes]
  exact hroute

/-- In SETTLE a pending target is complete exactly at rest and vented. -/
theorem targetComplete_settle {s : State} (hmode : s.mode.mode = .settle) {x : Target} (htarget : s.mode.target = some x) :
    targetComplete s = true ↔ Settled s := by
  simp [targetComplete, hmode, htarget, Settled]

theorem targetComplete_stop {s : State} (hmode : s.mode.mode = .stop) (htarget : s.mode.target = some .idle) :
    targetComplete s = true ↔ stopLatchSet s = false ∧ Settled s := by
  simp [targetComplete, hmode, htarget, Settled, and_assoc]

/-- SETTLE before its completion check. -/
def settleEntered (x : Target) (s : State) : State :=
  let s := setMode .settle (leakToVent s)
  let s := s.withMode { s.mode with target := some x, settleTimer := .running Config.settleMs }
  judgeMonitors (s.withDemand { startRamp 0 Config.restRampMs s.demand with wheel := 0 })

theorem enterSettle_eq (x : Target) (s : State) : enterSettle x s = completionCheck (settleEntered x s) := rfl

theorem kept_settleEntered (x : Target) (s : State) : SettingsKept s (settleEntered x s) := by
  have hmode := (kept_leakToVent s).trans (kept_setMode .settle _)
  have htarget : SettingsKept (setMode .settle (leakToVent s)) ((setMode .settle (leakToVent s)).withMode
      { (setMode .settle (leakToVent s)).mode with target := some x, settleTimer := .running Config.settleMs }) := by
    constructor <;> rfl
  exact (hmode.trans htarget).trans ((kept_withDemand _ _).trans (kept_judgeMonitors _))

theorem settleEntered_controller (x : Target) (s : State) :
    (settleEntered x s).mode =
      { s.mode with mode := .settle, target := some x, pauseKind := .none, settleTimer := .running 10000 } := by
  simp [settleEntered, setMode_controller]
  rfl

theorem settleEntered_frame (x : Target) (s : State) :
    (settleEntered x s).ctx = s.ctx ∧ (settleEntered x s).queue = s.queue ∧
    demandStopped (settleEntered x s).demand = demandStopped s.demand := by
  simp [settleEntered, demandStopped, startRamp, Config.restRampMs]

theorem marksKept_settleEntered {i : Fin 11} (hi : i ≠ 8) (x : Target) (s : State) :
    MarksKept i s (settleEntered x s) := by
  have hleak : MarksKept i s (leakToVent s) := .of_events (by simp)
  exact hleak.trans ((marksKept_setMode hi .settle _).trans (.of_events (judgeMonitors_events _)))

theorem targetComplete_settleEntered (x : Target) (s : State) :
    targetComplete (settleEntered x s) = true ↔ Settled s := by
  have hcontroller := settleEntered_controller x s
  rw [targetComplete_settle (by rw [hcontroller]) (x := x) (by rw [hcontroller]), settled_of_kept (kept_settleEntered x s)]

theorem enterSettle_pending {x : Target} {s : State} (h : ¬Settled s) : enterSettle x s = settleEntered x s := by
  rw [enterSettle_eq]
  refine completionCheck_pending ?_
  rw [Bool.eq_false_iff, Ne, targetComplete_settleEntered]
  exact h

theorem enterSettle_reached {x : Target} {s : State} (h : Settled s) :
    enterSettle x s = targetReached x (settleEntered x s) := by
  rw [enterSettle_eq]
  exact completionCheck_reached (by rw [settleEntered_controller]) ((targetComplete_settleEntered x s).2 h)

theorem kept_enterSettle (x : Target) (s : State) : SettingsKept s (enterSettle x s) :=
  (kept_settleEntered x s).trans (kept_completionCheck _)

/-! ## A test ended before SETTLE (R10, R149) -/

theorem kept_abortTest (cause : Nat) (s : State) : SettingsKept s (abortTest cause s) :=
  (kept_leakUndecided s).trans ((kept_post _ _).trans (kept_endTest _))

theorem recordAt_abortTest {s : State} {i : Fin 16} {r : Record} (hslot : onTestSlot s = some i)
    (hr : recordAt s i = some r) (cause : Nat) :
    recordAt (abortTest cause s) i = some (decided s.ctx (appendEntry ⟨.aborted, currentStep s, cause⟩ r)) ∧
    ∀ j, j ≠ i → recordAt (abortTest cause s) j = recordAt s j := by
  have hqueue : (leakUndecided s).queue = s.queue := by simp
  have hctx : (leakUndecided s).ctx = s.ctx := by simp
  have hstep : currentStep (leakUndecided s) = currentStep s := by rw [currentStep, hctx, currentStep]
  have hslot' : onTestSlot (appendFault .aborted cause (leakUndecided s)) = some i := by
    rw [appendFault, onTestSlot_post (appendEntry_state _), onTestSlot_congr hqueue, hslot]
  have hrecord : ∀ j, recordAt (appendFault .aborted cause (leakUndecided s)) j = if onTestSlot s = some j then
      (recordAt s j).map (appendEntry ⟨.aborted, currentStep s, cause⟩) else recordAt s j := fun j => by
    rw [appendFault, hstep]
    exact recordAt_post_of_queue hqueue _ j
  have hother : ∀ j, j ≠ i → some i ≠ some j := fun j hj h => hj (Option.some.inj h).symm
  refine ⟨?_, fun j hj => ?_⟩
  · rw [abortTest, recordAt_endTest, hslot', if_pos rfl, hrecord, if_pos hslot, hr]
    simp
  · rw [abortTest, recordAt_endTest, hslot', if_neg (hother j hj), hrecord, hslot, if_neg (hother j hj)]

theorem abortTest_frame (cause : Nat) (s : State) :
    (abortTest cause s).mode = s.mode ∧ (abortTest cause s).demand = s.demand ∧ (abortTest cause s).ctx = none := by
  simp [abortTest, endTest_ctx]

end Sys2Proof.Machine
end


section
/-! PROOFS. READY and IDLE requests and ABORT (spec/01, spec/10): O7, O9, O10 and O39. -/

namespace Sys2Proof.Machine

/-! ## A reply -/

theorem mark_reply (p : Port) (r : Reply) (s : State) (i : Fin 11) (q : Port) : mark (reply p r s) i q = mark s i q := rfl

theorem recordAt_reply (p : Port) (r : Reply) (s : State) (i : Fin 16) : recordAt (reply p r s) i = recordAt s i := rfl

theorem reply_held (p : Port) (r : Reply) (s : State) : ((reply p r s).ports.get p).held = r := by simp [reply]

/-! ## READY (R8) -/

theorem stopLatchSet_eq_false {s : State} : stopLatchSet s = false ↔ ∀ k, k.stopClass = true → latchSet s k = false := by
  simp only [stopLatchSet, List.any_eq_false, Bool.and_eq_true, not_and, Bool.not_eq_true]
  exact ⟨fun h k => h k (mem_allLatches k), fun h k _ => h k⟩

theorem lowestDrive_none {s : State} {p : DriveStatus → Bool} (h : ∀ d, p (held s d) = false) : lowestDrive s p = none := by
  rw [lowestDrive, List.find?_eq_none]
  exact fun d _ => by simp [h]

theorem setMode_noise (m : Mode) (s : State) :
    (setMode m s).noise = if s.mode.mode = .run ∧ m ≠ .run then { s.noise with block := none } else s.noise := by
  have hleft : (modeLeft m s).noise = if s.mode.mode = .run ∧ m ≠ .run then { s.noise with block := none } else s.noise := by
    unfold modeLeft
    dsimp only
    split <;> split <;> simp [abandonBlock]
  rw [setMode_eq]
  split
  · simp only [driveEnableFell_frame]
    exact hleft
  · exact hleft

/-- A judgement of the monitors touches their timers alone. -/
theorem judgeMonitors_supervision (s : State) :
    (judgeMonitors s).sup.oilRequest = s.sup.oilRequest ∧ (judgeMonitors s).sup.stale = s.sup.stale ∧
    (judgeMonitors s).sup.oilCount = s.sup.oilCount ∧ (judgeMonitors s).sup.lastOil = s.sup.lastOil := by
  rw [judgeMonitors_eq]
  exact ⟨rfl, rfl, rfl, rfl⟩

/-- The rise of DRIVE ENABLE where no drive and no bus reports against it (R4, R76). -/
theorem driveEnableRose_quiet {s : State} (hstate : ∀ d, (held s d).state ≠ .fault) (hbus : ∀ d, (held s d).bus = .normal) :
    driveEnableRose s =
      judgeMonitors (requestUnlessPending .oil (.single .to)
        (s.withSup
          { s.sup with
            oilRequest := .running 50
            stale := if latchSet s .tempStale then .stopped else .running 500 })) := by
  have hquiet : ∀ u : State, u.link = s.link → driveFaultJudge u = u ∧ supplyJudge u = u ∧
      (lowestDrive u fun h => h.state == .fault) = none := fun u hlink => by
    have hheld : ∀ d, held u d = held s d := fun d => by rw [held, hlink, held]
    have hfault : (lowestDrive u fun h => h.state == .fault) = none :=
      lowestDrive_none fun d => by rw [hheld]; simpa using hstate d
    have hsupply : supplyBad u = false := by
      rw [supplyBad, lowestDrive_none fun d => by rw [hheld, hbus d]; rfl]
      rfl
    refine ⟨by simp only [driveFaultJudge, hfault], ?_, hfault⟩
    rw [supplyJudge, hsupply, Bool.and_false]
    rfl
  have hdone : ∀ u : State, u.link = s.link →
      eitherOrder ((lowestDrive u fun h => h.state == .fault).isSome && !latchSet u .driveFault && supplyActs u)
        driveFaultJudge supplyJudge u = u := fun u hlink => by
    obtain ⟨hfault, hsupply, hnone⟩ := hquiet u hlink
    rw [hnone, eitherOrder]
    simp only [Option.isSome_none, Bool.false_and, Bool.false_eq_true, if_false, hfault, hsupply]
  exact hdone _ (by simp)

/-- Settles O7: the mode change and the rise of DRIVE ENABLE, with nothing held against them. -/
theorem readyAccepted : Obligations.ReadyAccepted := by
  intro p s hopen hmode hguards hlatches hreceived hstate hbus hcheck
  have hgood : readyGood s = true := by
    have hstop : stopLatchSet s = false := stopLatchSet_eq_false.2 hlatches
    have hall : allReceived s = true := by
      have h := hreceived
      simp only [allReceived, Bool.and_eq_true]
      exact ⟨⟨h .input, h .left⟩, h .right⟩
    simp [readyGood, hguards, hstop, hall]
  have hdecide : readyDecide s = (plain .ok, driveEnableRose (setMode .ready s)) := by
    simp only [readyDecide, hmode, hgood, if_true]
  have hheld : ∀ d, held (setMode .ready s) d = held s d := fun d => by simp [held]
  obtain ⟨hzero, hevents⟩ := setMode_zero hcheck .ready
  have hnoise : (setMode .ready s).noise = s.noise := by rw [setMode_noise, hmode]; rfl
  have hticks : (setMode .ready s).orders = s.orders ∧ (setMode .ready s).ticks = s.ticks := by simp
  obtain ⟨hstay, hlatch, -⟩ := setMode_sup .ready s
  rw [exec_readyRequest hopen, hdecide, driveEnableRose_quiet (by simpa [hheld] using hstate) (by simpa [hheld] using hbus)]
  refine ⟨_, rfl, ?_, ?_, ?_, ?_, ?_, ?_, ?_, ?_, ?_⟩
  · apply State.eq_of_fields <;> simp [hzero, hevents, hnoise]
  · simp [setMode_controller]
  · simp [setMode_controller]
  · simp [setMode_controller]
  · simp [driveEnable, setMode_controller, hguards, Mode.active]
  · simp [judgeMonitors_latches, hlatch]
  · simp [judgeMonitors_supervision]
  · have hclear : latchSet (setMode .ready s) .tempStale = false := by
      rw [latchSet, latchValue_congr hlatch]
      exact hlatches .tempStale rfl
    simp [judgeMonitors_supervision, hclear]
  · simp [reply, plain]

/-! ## IDLE (R9 to R11, R13) -/

theorem settled_iff (s : State) : (atRest s && vented s) = true ↔ Settled s := by simp [Settled]

theorem mode_ne_active {x : Target} : x.mode = .idle ∨ x.mode = .ready := by cases x <;> simp [Target.mode]

/-- Settles O9: the plain mode change in READY, and the kept target in STOP. -/
theorem idleTakenOrKept : Obligations.IdleTakenOrKept := by
  refine ⟨fun p s hopen hmode hsettled hcheck => ?_, fun p s hopen hmode => ?_⟩
  · have hdecide : idleDecide s = (plain .ok, judgeMonitors (setMode .idle s)) := by
      simp only [idleDecide, hmode, (settled_iff s).2 hsettled, if_true]
    obtain ⟨hzero, hevents⟩ := setMode_zero hcheck .idle
    have hnoise : (setMode .idle s).noise = s.noise := by rw [setMode_noise, hmode]; rfl
    obtain ⟨-, hlatch, -⟩ := setMode_sup .idle s
    rw [exec_idleRequest hopen, hdecide]
    refine ⟨_, rfl, ?_, ?_, ?_, ?_, ?_, ?_⟩
    · apply State.eq_of_fields <;> simp [hzero, hevents, hnoise]
    · simp [setMode_controller]
    · simp [setMode_controller]
    · simp [driveEnable, setMode_controller, Mode.active]
    · simp [judgeMonitors_latches, hlatch]
    · simp [reply, plain]
  · obtain ⟨u, hu⟩ : ∃ u, u = s.withMode { s.mode with target := some .idle } := ⟨_, rfl⟩
    have humode : u.mode.mode = .stop := by rw [hu]; exact hmode
    have hutarget : u.mode.target = some .idle := by rw [hu]; rfl
    have hcomplete : targetComplete u = true ↔ stopLatchSet s = false ∧ Settled s := by
      rw [targetComplete_stop humode hutarget, hu]
      exact Iff.rfl
    have hdecide : idleDecide s = (plain .ok, completionCheck u) := by simp only [idleDecide, hmode, hu]
    rw [exec_idleRequest hopen, hdecide]
    refine ⟨_, rfl, by simp [reply, plain], fun hpending => ?_, fun hstop hsettled => ?_⟩
    · have hnot : targetComplete u = false := by
        rw [Bool.eq_false_iff, Ne, hcomplete]
        exact hpending
      rw [completionCheck_pending hnot, hu]
      rfl
    · rw [completionCheck_reached hutarget (hcomplete.2 ⟨hstop, hsettled⟩)]
      refine ⟨by simp [targetReached_controller, Target.mode], by simp [targetReached_controller], ?_, fun q hroute => ?_⟩
      · simp only [reply_frame, targetReached_demand]
        rw [hu]
        rfl
      · exact mark_targetReached .idle (s := u) (by rw [hu]; exact hroute)

/-! ## Tests that end on the way to SETTLE (R10, R149) -/

section
variable {x : Target} {s u : State} (hkept : SettingsKept s u) (hcontroller : u.mode = s.mode)
include hkept hcontroller

/-- SETTLE entered with the cell not at rest and vented, after an operation that kept the settings and the mode. -/
theorem settle_pending (h : ¬Settled s) :
    (enterSettle x u).mode =
      { s.mode with mode := .settle, target := some x, pauseKind := .none, settleTimer := .running 10000 } ∧
    MarksKept 6 u (enterSettle x u) := by
  have hpending : ¬Settled u := fun hs => h ((settled_of_kept hkept).1 hs)
  rw [enterSettle_pending hpending, settleEntered_controller, hcontroller]
  exact ⟨rfl, marksKept_settleEntered (by decide) x u⟩

/-- SETTLE complete at its entry. -/
theorem settle_reached (h : Settled s) (hdemand : u.demand = s.demand) :
    (enterSettle x u).mode =
      { s.mode with mode := x.mode, target := none, pauseKind := .none, settleTimer := .stopped } ∧
    (enterSettle x u).demand = { s.demand with speed := 0, wheel := 0, ramp := none } ∧
    ∀ q, (routeOf s 6).has q = true → mark (enterSettle x u) 6 q = some (.mode x.mode .reached) := by
  obtain ⟨-, -, hstopped⟩ := settleEntered_frame x u
  rw [enterSettle_reached ((settled_of_kept hkept).2 h), targetReached_controller, settleEntered_controller, hcontroller,
    targetReached_demand, hstopped, hdemand]
  refine ⟨rfl, rfl, fun q hroute => mark_targetReached x ?_⟩
  rw [routeOf, (kept_settleEntered x u).routes, hkept.routes]
  exact hroute

end

/-- The request of a degraded IDLE: where the record ON TEST is decided first, or where there is none to decide. -/
theorem idleDecide_degraded {s : State}
    (hmode : s.mode.mode = .run ∨ s.mode.mode = .pause ∨ (s.mode.mode = .ready ∧ ¬Settled s)) :
    idleDecide s = (plain .ok, degrade (if s.mode.mode = .ready then s else abortTest 3 s)) := by
  rcases hmode with h | h | ⟨h, hmoving⟩
  · simp [idleDecide, h]
  · simp [idleDecide, h]
  · have hnot : (atRest s && vented s) = false := by rw [Bool.eq_false_iff, Ne, settled_iff]; exact hmoving
    simp [idleDecide, h, hnot]

theorem appendEntry_faults {r : Record} (hroom : r.faults.length < 6) (e : FaultEntry) :
    (appendEntry e r).faults = r.faults ++ [e] := by rw [appendEntry_room hroom]

/-- The record ON TEST after an ended test, through an entry to SETTLE. -/
theorem recordAt_settled {s : State} {i : Fin 16} {r : Record} (hslot : onTestSlot s = some i) (hr : recordAt s i = some r)
    (x : Target) {cause : Nat} {u : State} (hqueue : u.queue = (abortTest cause s).queue) :
    recordAt (enterSettle x u) i = some (decided s.ctx (appendEntry ⟨.aborted, currentStep s, cause⟩ r)) ∧
    ∀ j, j ≠ i → recordAt (enterSettle x u) j = recordAt s j := by
  have hafter : (enterSettle x u).queue = (abortTest cause s).queue := by simpa using hqueue
  simp only [recordAt_congr hafter]
  exact recordAt_abortTest hslot hr cause

/-- Settles O10: the ended test, then SETTLE, which waits or is complete at once. -/
theorem idleDegraded : Obligations.IdleDegraded := by
  refine ⟨fun p s hopen hmode hmoving => ?_, fun p s hopen hmode hsettled => ?_⟩
  · obtain ⟨u, hu⟩ : ∃ u, u = if s.mode.mode = .ready then s else abortTest 3 s := ⟨_, rfl⟩
    obtain ⟨hcontroller, -, -⟩ := abortTest_frame 3 s
    have hkept : SettingsKept s u := by rw [hu]; split <;> [exact .rfl; exact kept_abortTest 3 s]
    have humode : u.mode = s.mode := by rw [hu]; split <;> [rfl; exact hcontroller]
    have hraised := hkept.trans (kept_raise (.mode .idle .degraded) u)
    obtain ⟨hsettle, hmarks⟩ := settle_pending (x := .idle) hraised (by simpa using humode) hmoving
    have hend := hraised.trans (kept_enterSettle .idle _)
    rw [exec_idleRequest hopen, idleDecide_degraded (by tauto), ← hu, degrade]
    refine ⟨_, rfl, ?_⟩
    simp only [reply_frame, reply_held, recordAt_reply, mark_reply]
    refine ⟨by rw [hsettle], by rw [hsettle], by rw [hsettle], by rw [hsettle], fun q hroute => ?_, rfl,
      fun hready => ⟨?_, fun i r hslot hr hroom => ?_⟩, ?_⟩
    · refine mark_of_raise (e := .mode .idle .degraded) hmarks ?_
      rw [routeOf, hkept.routes]
      exact hroute
    · rw [if_neg hready] at hu
      simp [hu, abortTest_frame]
    · rw [if_neg hready] at hu
      obtain ⟨hrecord, -⟩ := recordAt_settled hslot hr .idle (cause := 3) (u := raise (.mode .idle .degraded) u)
        (by simp [hu])
      exact ⟨_, hrecord, rfl, appendEntry_faults hroom _⟩
    · exact ⟨hend.store, hend.link, hend.pending⟩
  · obtain ⟨hcontroller, hdemand, hctx⟩ := abortTest_frame 3 s
    have hraised := (kept_abortTest 3 s).trans (kept_raise (.mode .idle .degraded) _)
    obtain ⟨hreached, hrest, hmarks⟩ :=
      settle_reached (x := .idle) hraised (by simpa using hcontroller) hsettled (by simpa using hdemand)
    have hend := hraised.trans (kept_enterSettle .idle _)
    have hready : s.mode.mode ≠ .ready := by rcases hmode with h | h <;> rw [h] <;> decide
    rw [exec_idleRequest hopen, idleDecide_degraded (by tauto), if_neg hready, degrade]
    refine ⟨_, rfl, ?_⟩
    simp only [reply_frame, reply_held, recordAt_reply, mark_reply]
    refine ⟨by rw [hreached]; rfl, by rw [hreached], by rw [hreached], by rw [hreached], by simp [hctx],
      hrest, hmarks, rfl, fun i r hslot hr hroom => ?_, ?_⟩
    · obtain ⟨hrecord, -⟩ := recordAt_settled hslot hr .idle (cause := 3)
        (u := raise (.mode .idle .degraded) (abortTest 3 s)) (by simp)
      exact ⟨_, hrecord, rfl, appendEntry_faults hroom _⟩
    · exact ⟨hend.store, hend.link, hend.pending⟩

/-! ## ABORT (R149) -/

theorem exec_abort {p : Port} {s : State} (hopen : PortOpen p s) (hright : p = .line → s.ports.rights.abort = true) :
    exec (.abort p) s = .next (reply p (abortDecide p s).1 (abortDecide p s).2) := by
  refine congrArg Host.Outcome.next (portRequest_of_open hopen ?_ _)
  cases p with
  | line => exact hright rfl
  | cell => rfl

/-- A record with a fault list entry does not pass (R153). -/
theorem deriveVerdict_ne_pass {r : Record} (h : r.faults ≠ []) : deriveVerdict r ≠ .pass := by
  obtain ⟨e, he⟩ := List.exists_mem_of_ne_nil _ h
  unfold deriveVerdict
  split
  · decide
  · split
    · decide
    · rename_i haxle hother
      cases hkind : e.kind.axle with
      | true =>
        have hany : (r.faults.any fun e => e.kind.axle) = true := List.any_eq_true.2 ⟨e, he, hkind⟩
        exact absurd (by rw [hany]; rfl) haxle
      | false =>
        have hany : (r.faults.any fun e => !e.kind.axle) = true := List.any_eq_true.2 ⟨e, he, by simp [hkind]⟩
        exact absurd (by rw [hany]; rfl) hother

/-- Settles O39: the ended test, then SETTLE with target READY. -/
theorem abortSettles : Obligations.AbortSettles := by
  intro p s hopen hright
  rw [exec_abort hopen hright]
  refine ⟨fun hnone => ?_, fun i r hslot hr hroom => ?_⟩
  · rw [abortDecide, hnone]
    rfl
  · have hdecide : abortDecide p s = (⟨.ok, [byte i.val]⟩, enterSettle .ready (abortTest (abortCause p) s)) := by
      rw [abortDecide, hslot]
    obtain ⟨hcontroller, hdemand, hctx⟩ := abortTest_frame (abortCause p) s
    have hkept := kept_abortTest (abortCause p) s
    have hend := hkept.trans (kept_enterSettle .ready _)
    obtain ⟨hrecord, hothers⟩ := recordAt_settled hslot hr .ready (u := abortTest (abortCause p) s) rfl
    have hcause : abortCause p = if p = .line then 1 else 2 := by cases p <;> rfl
    rw [hdecide]
    refine ⟨_, decided s.ctx (appendEntry ⟨.aborted, currentStep s, abortCause p⟩ r), rfl, ?_⟩
    simp only [reply_frame, recordAt_reply, mark_reply]
    refine ⟨fun hmoving => ?_, fun hsettled => ?_, by simpa using hctx, hrecord, rfl, ?_, ?_, hothers, ?_,
      hend.store, hend.link, hend.pending⟩
    · obtain ⟨hsettle, -⟩ := settle_pending (x := .ready) hkept hcontroller hmoving
      simp [hsettle]
    · obtain ⟨hreached, hrest, hmarks⟩ := settle_reached (x := .ready) hkept hcontroller hsettled hdemand
      exact ⟨by rw [hreached]; rfl, by rw [hreached], by rw [hreached], hrest, hmarks⟩
    · rw [← hcause]
      exact appendEntry_faults hroom _
    · refine fun h => deriveVerdict_ne_pass ?_ (Option.some.inj h)
      change (appendEntry _ r).faults ≠ []
      rw [appendEntry_faults hroom]
      simp
    · rw [← hend.ports]
      rfl

end Sys2Proof.Machine
end


section
/-! PROOFS. The clearing of the latches and CELL CLEAR (spec/05, spec/01): O22 and O23. -/

namespace Sys2Proof.Machine

/-! ## FAULT READ (R83) -/

/-- The three bytes of a latch. -/
def latchField (s : State) (k : LatchKind) : List Byte := flagByte (latchSet s k) :: be16 ((latchValue s k).getD 0)

theorem allLatches_get (k : LatchKind) : allLatches[k.code - 1]? = some k := by cases k <;> rfl

theorem latchBytes_field (s : State) (k : LatchKind) :
    ((latchBytes s).drop (3 * (k.code - 1))).take 3 = latchField s k :=
  flatMap_drop_take (latchField s) (fun _ => rfl) allLatches (k.code - 1) (allLatches_get k)

theorem latchBytes_length (s : State) : (latchBytes s).length = 45 :=
  flatMap_length (latchField s) (n := 3) (fun _ => rfl) allLatches

theorem exec_faultRead {p : Port} {s : State} (hopen : PortOpen p s) :
    exec (.faultRead p) s = .next (reply p ⟨.ok, latchBytes s⟩ s) :=
  congrArg Host.Outcome.next (portRequest_of_open hopen (allowed_faultRead _ p) faultReadDecide)

/-! ## The clearing (R84) -/

theorem clearLatches_latches (s : State) : (clearLatches s).sup.latches = Vector.replicate 15 none := by
  rw [clearLatches, judgeMonitors_latches]
  rfl

/-- No latch is SET. -/
def NoLatch (s : State) : Prop := ∀ k, latchValue s k = none

theorem noLatch_of_cleared {s : State} (h : s.sup.latches = Vector.replicate 15 none) : NoLatch s := fun k => by
  simp [latchValue, h]

theorem stopLatchSet_of_noLatch {s : State} (h : NoLatch s) : stopLatchSet s = false :=
  stopLatchSet_eq_false.2 fun k _ => by rw [latchSet, h]; rfl

/-- What a clearing leaves besides the supervision. -/
theorem clearLatches_rest (s : State) :
    (clearLatches s).mode = s.mode ∧ (clearLatches s).demand = s.demand ∧ (clearLatches s).ctx = s.ctx ∧
    (clearLatches s).queue = s.queue ∧ (clearLatches s).leak = s.leak ∧ (clearLatches s).zero = s.zero ∧
    (clearLatches s).events = s.events ∧ (clearLatches s).sup.oilCount = 0 := by
  have hcount : (clearLatches s).sup.oilCount = 0 := by
    obtain ⟨-, -, hcount, -⟩ := judgeMonitors_supervision (s.withSup
      { s.sup with
        latches := Vector.replicate 15 none, oilCount := 0
        filters := ⟨.stopped, .stopped, .stopped, .stopped⟩
        stale := if driveEnable s then .running Config.staleMs else s.sup.stale })
    exact hcount
  refine ⟨?_, ?_, ?_, ?_, ?_, ?_, ?_, hcount⟩ <;> simp [clearLatches]

/-- After a clearing each monitor's timer starts anew, or stands (log entry 26). -/
theorem timersRestarted_clearLatches (s : State) : TimersRestarted s (clearLatches s) := by
  obtain ⟨u, hu⟩ : ∃ u, u = s.withSup
      { s.sup with
        latches := Vector.replicate 15 none, oilCount := 0
        filters := ⟨.stopped, .stopped, .stopped, .stopped⟩
        stale := if driveEnable s then .running Config.staleMs else s.sup.stale } := ⟨_, rfl⟩
  have hcleared : clearLatches s = judgeMonitors u := by rw [hu]; rfl
  have hsame : SameMonitors s u :=
    sameMonitors_of (by rw [hu]; rfl) (by rw [hu]; rfl) (by rw [hu]; rfl) (fun d => by rw [hu]; rfl) (by rw [hu]; rfl)
  have hclear : ∀ m, latchSet u (monitorLatch m) = false := fun m => by
    rw [latchSet, noLatch_of_cleared (s := u) (by rw [hu]; rfl)]
    rfl
  rw [hcleared]
  refine ⟨fun m => ?_, ?_⟩
  · obtain ⟨hactive, hfails⟩ := hsame m
    have hstopped : (u.sup.filters.get m).isRunning = false := by rw [hu]; cases m <;> rfl
    rw [judgeMonitors_filters, judgedTimer, hactive, hfails, hclear, hstopped]
    cases m <;> simp [filterMs]
  · obtain ⟨-, hstale, -⟩ := judgeMonitors_supervision u
    rw [hstale, hu]
    rfl

/-! ## The target after a clearing (R13, R84) -/

/-- A pending target whose condition holds once no latch is SET. -/
def ReachedOnClear (s : State) (x : Target) : Prop :=
  s.mode.target = some x ∧ Settled s ∧ (s.mode.mode = .settle ∨ (s.mode.mode = .stop ∧ x = .idle))

theorem targetComplete_of_noLatch {s : State} (h : NoLatch s) : targetComplete s = true ↔ ∃ x, ReachedOnClear s x := by
  have hstop := stopLatchSet_of_noLatch h
  unfold targetComplete ReachedOnClear
  rw [hstop]
  rcases hmode : s.mode.mode <;> rcases htarget : s.mode.target with _ | (_ | _) <;> simp [Settled]

theorem targetReached_oilCount {x : Target} {s : State} (h : s.sup.oilCount = 0) : (targetReached x s).sup.oilCount = 0 := by
  have hmode : ∀ m (t : State), t.sup.oilCount = 0 → (setMode m t).sup.oilCount = 0 := fun m t ht => by
    obtain ⟨-, -, -, -, -, -, -, -, hleft⟩ := modeLeft_frame m t
    have hwritten : (modeWritten m t).sup = (modeLeft m t).sup := rfl
    rw [setMode_eq]
    split
    · rfl
    · rw [hwritten, hleft]
      exact ht
  obtain ⟨-, -, hcount, -⟩ := judgeMonitors_supervision (raise (.mode x.mode .reached)
    ((setMode x.mode (s.withDemand (demandStopped s.demand))).withMode
      { (setMode x.mode (s.withDemand (demandStopped s.demand))).mode with target := none }))
  exact hcount.trans (hmode x.mode _ h)

/-- A state after a clearing of the latches and the judgement of the target, as O22 says it. -/
structure ClearedFrom (s t : State) : Prop where
  latches : ∀ k, latchValue t k = none
  oilCount : t.sup.oilCount = 0
  queue : t.queue = s.queue
  ctx : t.ctx = s.ctx
  leak : t.leak = s.leak
  kept : SettingsKept s t
  target : TargetJudged s t
  stays : t.mode.mode = s.mode.mode → t.demand = s.demand ∧ TimersRestarted s t
  changes : t.mode.mode ≠ s.mode.mode → t.demand = { s.demand with speed := 0, wheel := 0, ramp := none }

theorem clearedFrom_completionCheck (s : State) : ClearedFrom s (completionCheck (clearLatches s)) := by
  obtain ⟨hmode, hdemand, hctx, hqueue, hleak, -, hevents, hcount⟩ := clearLatches_rest s
  have hlatches := noLatch_of_cleared (clearLatches_latches s)
  have hkept := kept_clearLatches s
  have hreached : ∀ x, ReachedOnClear (clearLatches s) x ↔ ReachedOnClear s x := fun x => by
    rw [ReachedOnClear, ReachedOnClear, hmode, settled_of_kept hkept]
  have hcomplete := targetComplete_of_noLatch hlatches
  by_cases h : ∃ x, ReachedOnClear s x
  · obtain ⟨x, hx⟩ := h
    obtain ⟨htarget, hsettled, hwhere⟩ := hx
    have hx : ReachedOnClear s x := ⟨htarget, hsettled, hwhere⟩
    have hdone : completionCheck (clearLatches s) = targetReached x (clearLatches s) :=
      completionCheck_reached (by rw [hmode, htarget]) (hcomplete.2 ⟨x, (hreached x).2 hx⟩)
    obtain ⟨hctx', hqueue', hleak'⟩ := targetReached_frame x (clearLatches s)
    have hcontroller := targetReached_controller x (clearLatches s)
    have hmoved : x.mode ≠ s.mode.mode := by
      rcases hwhere with h | ⟨h, rfl⟩
      · rw [h]; cases x <;> decide
      · rw [h]; decide
    rw [hdone]
    refine ⟨fun k => ?_, targetReached_oilCount hcount, hqueue'.trans hqueue, hctx'.trans hctx, hleak'.trans hleak,
      hkept.trans (kept_targetReached _ _), ⟨fun hnone => absurd hx (hnone x), fun y hy => ?_⟩, fun hstay => ?_, fun _ => ?_⟩
    · rw [latchValue_congr (targetReached_latches x _), hlatches]
    · obtain rfl : x = y := Option.some.inj (htarget.symm.trans hy.1)
      refine ⟨by rw [hcontroller, hmode], fun q hroute => mark_targetReached x ?_⟩
      rw [routeOf, hevents]
      exact hroute
    · rw [hcontroller] at hstay
      exact absurd hstay hmoved
    · rw [targetReached_demand, hdemand]
      rfl
  · have hpending : targetComplete (clearLatches s) = false := by
      rw [Bool.eq_false_iff, Ne, hcomplete]
      exact fun ⟨x, hx⟩ => h ⟨x, (hreached x).1 hx⟩
    rw [completionCheck_pending hpending]
    exact ⟨hlatches, hcount, hqueue, hctx, hleak, hkept, ⟨fun _ => hmode, fun x hx => absurd ⟨x, hx⟩ h⟩,
      fun _ => ⟨hdemand, timersRestarted_clearLatches s⟩, fun hmoved => absurd (by rw [hmode]) hmoved⟩

theorem clearedFrom_reply {s t : State} (h : ClearedFrom s t) (p : Port) (r : Reply) :
    (∀ k, latchValue (reply p r t) k = none) ∧ (reply p r t).sup.oilCount = 0 ∧ (reply p r t).queue = s.queue ∧
    (reply p r t).ctx = s.ctx ∧ (reply p r t).store = s.store ∧ TargetJudged s (reply p r t) ∧
    ((reply p r t).mode.mode = s.mode.mode → (reply p r t).demand = s.demand ∧ TimersRestarted s (reply p r t)) ∧
    ((reply p r t).mode.mode ≠ s.mode.mode →
      (reply p r t).demand = { s.demand with speed := 0, wheel := 0, ramp := none }) ∧
    (reply p r t).link = s.link ∧ (reply p r t).leak = s.leak ∧ (reply p r t).pending = s.pending :=
  ⟨h.latches, h.oilCount, h.queue, h.ctx, h.kept.store, h.target, h.stays, h.changes, h.kept.link, h.leak, h.kept.pending⟩

/-- Settles O22: FAULT READ latch by latch, and the clearing with the target it reaches. -/
theorem latchesReadAndCleared : Obligations.LatchesReadAndCleared := by
  refine ⟨fun p s hopen => ?_, fun p s hopen hright => ?_⟩
  · refine ⟨_, exec_faultRead hopen, latchBytes_length s, fun k => ?_⟩
    rw [latchBytes_field, latchField, latchSet]
    cases latchValue s k <;> rfl
  · have hallowed : ∀ c, c = .clearFaults ∨ c = .faultReadAndClear → allowed s.ports.rights p c = true := fun c hc => by
      cases p with
      | line => rcases hc with rfl | rfl <;> exact hright rfl
      | cell => rcases hc with rfl | rfl <;> rfl
    have hclear : exec (.clearFaults p) s = .next (reply p (plain .ok) (completionCheck (clearLatches s))) :=
      congrArg Host.Outcome.next (portRequest_of_open hopen (hallowed _ (.inl rfl)) clearFaultsDecide)
    have hread : exec (.faultReadAndClear p) s =
        .next (reply p ⟨.ok, latchBytes s⟩ (completionCheck (clearLatches s))) :=
      congrArg Host.Outcome.next (portRequest_of_open hopen (hallowed _ (.inr rfl)) faultReadAndClearDecide)
    have hcleared := clearedFrom_completionCheck s
    refine ⟨⟨_, hclear, ?_⟩, _, hread, ?_⟩
    · obtain ⟨hlatches, hcount, hqueue, hctx, hstore, htarget, hstays, hchanges, hlink, hleak, hpending⟩ :=
        clearedFrom_reply hcleared p (plain .ok)
      exact ⟨hlatches, hcount, reply_held _ _ _, hqueue, hctx, hstore, htarget, hstays, hchanges, hlink, hleak, hpending⟩
    · obtain ⟨hlatches, hcount, hqueue, hctx, hstore, htarget, hstays, hchanges, hlink, hleak, hpending⟩ :=
        clearedFrom_reply hcleared p ⟨.ok, latchBytes s⟩
      refine ⟨hlatches, hcount, ?_, hqueue, hctx, htarget, hstays, hchanges, hstore, hlink, hleak, hpending⟩
      rw [reply_held]
      exact exec_faultRead hopen

/-! ## No check in progress -/

theorem abandonCheck_check (s : State) : (abandonCheck s).zero.check = none := by
  unfold abandonCheck
  split
  · rfl
  · assumption

theorem abandonCheckOf_noCheck {s : State} (h : s.zero.check = none) (p : CheckKind → Bool) : abandonCheckOf p s = s := by
  simp [abandonCheckOf, h]

theorem countUnchecked_check (r : Record) (z : ZeroCheck) : (countUnchecked r z).check = z.check := by
  unfold countUnchecked
  split <;> rfl

theorem endContext_zero (s : State) : (endContext s).zero = s.zero := by simp

theorem endTest_noCheck {s : State} (h : s.zero.check = none) : (endTest s).zero.check = none := by
  unfold endTest
  split
  · split
    · rw [endContext_zero, abandonCheckOf_noCheck]
      · simpa [countUnchecked_check] using h
      · simpa [countUnchecked_check] using h
    · rw [endContext_zero, h]
  · rw [endContext_zero, h]

theorem enterStopped_noCheck {s : State} (h : s.zero.check = none) (m : Mode) : (enterStopped m s).zero.check = none := by
  have hend : (endTest (dropTarget (leakToVent s))).zero.check = none := endTest_noCheck (by simpa using h)
  obtain ⟨hzero, -⟩ := setMode_zero hend m
  simp only [enterStopped, judgeMonitors_frame, State.withDemand_zero, hzero]
  exact hend

theorem targetReached_noCheck {s : State} (h : s.zero.check = none) (x : Target) :
    (targetReached x s).zero.check = none := by
  obtain ⟨hzero, -⟩ := setMode_zero (s := s.withDemand (demandStopped s.demand)) h x.mode
  simp only [targetReached, judgeMonitors_frame, raise_frame, State.withMode_zero, hzero]
  exact h

/-! ## CELL CLEAR (R19) -/

/-- CELL CLEAR up to the clearing of the latches: the check, the test and the latches are over. -/
def testCleared (s : State) : State :=
  clearLatches (endTest (appendFault .cellClear 0 (leakUndecided (abandonCheck s))))

/-- STOP as CELL CLEAR enters it, or stays in it. -/
def stopHeld (s : State) : State := if s.mode.mode = .stop then leakToVent s else enterStopped .stop s

/-- CELL CLEAR before the judgement of its target. -/
def cellStopped (s : State) : State :=
  (stopHeld (testCleared s)).withMode { (stopHeld (testCleared s)).mode with target := some .idle }

theorem cellClearDecide_eq (s : State) : cellClearDecide s = (plain .ok, completionCheck (cellStopped s)) := by
  unfold cellClearDecide cellStopped
  dsimp only
  generalize hu : clearLatches (endTest (appendFault .cellClear 0 (leakUndecided (abandonCheck s)))) = u
  have htest : testCleared s = u := hu
  rw [htest]
  rfl

theorem kept_appendFault (k : FaultKind) (v : Nat) (s : State) : SettingsKept s (appendFault k v s) := kept_post _ s

theorem kept_testCleared (s : State) : SettingsKept s (testCleared s) := by
  have hleak := (kept_abandonCheck s).trans (kept_leakUndecided _)
  have hend := (hleak.trans (kept_appendFault .cellClear 0 _)).trans (kept_endTest _)
  exact hend.trans (kept_clearLatches _)

theorem kept_stopHeld (s : State) : SettingsKept s (stopHeld s) := by
  unfold stopHeld
  split
  · exact kept_leakToVent s
  · exact kept_enterStopped _ s

theorem kept_cellStopped (s : State) : SettingsKept s (cellStopped s) :=
  (kept_testCleared s).trans ((kept_stopHeld _).trans (kept_withTarget _ _))

theorem testCleared_spec (s : State) :
    (testCleared s).ctx = none ∧ (testCleared s).zero.check = none ∧
    (testCleared s).sup.latches = Vector.replicate 15 none := by
  obtain ⟨-, -, hctx, -, -, hzero, -, -⟩ :=
    clearLatches_rest (endTest (appendFault .cellClear 0 (leakUndecided (abandonCheck s))))
  refine ⟨hctx.trans (endTest_ctx _), ?_, clearLatches_latches _⟩
  rw [testCleared, hzero]
  refine endTest_noCheck ?_
  simpa using abandonCheck_check s

theorem stopHeld_spec (s : State) (hctx : s.ctx = none) (hcheck : s.zero.check = none) :
    (stopHeld s).mode.mode = .stop ∧ (stopHeld s).ctx = none ∧ (stopHeld s).zero.check = none ∧
    (stopHeld s).sup.latches = s.sup.latches := by
  unfold stopHeld
  split
  case isTrue h => simp [h, hctx, hcheck]
  case isFalse =>
    exact ⟨enterStopped_mode _ _, enterStopped_ctx _ _, enterStopped_noCheck hcheck _, enterStopped_latches _ _⟩

/-- The record ON TEST has the CELL CLEAR entry and is decided. -/
theorem recordAt_testCleared {s : State} {i : Fin 16} {r : Record} (hslot : onTestSlot s = some i)
    (hr : recordAt s i = some r) :
    recordAt (testCleared s) i = some (decided s.ctx (appendEntry ⟨.cellClear, currentStep s, 0⟩ r)) := by
  obtain ⟨u, hu⟩ : ∃ u, u = leakUndecided (abandonCheck s) := ⟨_, rfl⟩
  have hqueue : u.queue = s.queue := by simp [hu]
  have hctx : u.ctx = s.ctx := by simp [hu]
  have hslot' : onTestSlot (appendFault .cellClear 0 u) = some i := by
    rw [appendFault, onTestSlot_post (appendEntry_state _), onTestSlot_congr hqueue, hslot]
  have hentry : recordAt (appendFault .cellClear 0 u) i = some (appendEntry ⟨.cellClear, currentStep s, 0⟩ r) := by
    rw [appendFault, recordAt_post_of_queue hqueue, if_pos hslot, hr, currentStep, hctx, currentStep]
    rfl
  obtain ⟨-, -, -, hkeep, -⟩ := clearLatches_rest (endTest (appendFault .cellClear 0 u))
  rw [testCleared, ← hu, recordAt_congr hkeep, recordAt_endTest, if_pos hslot', hentry]
  simp [hctx]

/-- A decided record is no record ON TEST, so a later entry to STOP leaves it. -/
theorem recordAt_stopHeld {s : State} {i : Fin 16} {r : Record} (hr : recordAt s i = some r) (hstate : r.state = .decided) :
    recordAt (stopHeld s) i = some r := by
  unfold stopHeld
  split
  · rw [recordAt_congr (s := s) (by simp), hr]
  · rw [recordAt_enterStopped, if_neg, hr]
    intro hslot
    obtain ⟨r', hr', hontest⟩ := onTestSlot_some hslot
    obtain rfl : r = r' := Option.some.inj (hr.symm.trans hr')
    rw [hstate] at hontest
    cases hontest

theorem exec_cellClear {s : State} (hopen : PortOpen .cell s) :
    exec (.cellClear .cell) s = .next (reply .cell (plain .ok) (completionCheck (cellStopped s))) :=
  (congrArg Host.Outcome.next (portRequest_of_open hopen rfl cellClearDecide)).trans (by rw [cellClearDecide_eq])

/-- Settles O23: the cleared test, STOP held with target IDLE, and the target judged. -/
theorem cellClearStops : Obligations.CellClearStops := by
  intro s hopen
  obtain ⟨hctx, hcheck, hlatches⟩ := testCleared_spec s
  obtain ⟨hstop, hctx', hcheck', hlatches'⟩ := stopHeld_spec (testCleared s) hctx hcheck
  obtain ⟨u, hu⟩ : ∃ u, u = cellStopped s := ⟨_, rfl⟩
  have hclear : NoLatch u := noLatch_of_cleared (by rw [hu]; exact hlatches'.trans hlatches)
  have hmode : u.mode.mode = .stop := by rw [hu]; exact hstop
  have htarget : u.mode.target = some .idle := by rw [hu]; rfl
  have huctx : u.ctx = none := by rw [hu]; exact hctx'
  have hucheck : u.zero.check = none := by rw [hu]; exact hcheck'
  have hkept : SettingsKept s u := by rw [hu]; exact kept_cellStopped s
  have hcomplete : targetComplete u = true ↔ Settled s := by
    rw [targetComplete_stop hmode htarget, settled_of_kept hkept]
    exact and_iff_right (stopLatchSet_of_noLatch hclear)
  have hend := hkept.trans (kept_completionCheck u)
  have hzero := hend.zero
  have hconv := hend.conv
  simp only [zeroRest, ZeroCheck.mk.injEq, convRest, Prod.mk.injEq] at hzero hconv
  obtain ⟨href, hvalid, -, hforced, -, -, -, -, hlog, hoffset, htolerance, hinterval, hpolicy⟩ := hzero
  obtain ⟨-, hclasses, hmasked⟩ := hconv
  have hrecord : ∀ {i r}, onTestSlot s = some i → recordAt s i = some r → recordAt (completionCheck u) i =
      some (decided s.ctx (appendEntry ⟨.cellClear, currentStep s, 0⟩ r)) := fun hslot hr => by
    have hqueue : (completionCheck u).queue = (stopHeld (testCleared s)).queue := by simp [hu, cellStopped]
    rw [recordAt_congr hqueue]
    exact recordAt_stopHeld (recordAt_testCleared hslot hr) rfl
  have hdone : Settled s → completionCheck u = targetReached .idle u := fun hsettled =>
    completionCheck_reached htarget (hcomplete.2 hsettled)
  have hpending : ¬Settled s → completionCheck u = u := fun hmoving =>
    completionCheck_pending (by rw [Bool.eq_false_iff, Ne, hcomplete]; exact hmoving)
  rw [exec_cellClear hopen, ← hu]
  refine ⟨_, rfl, ?_⟩
  simp only [reply_frame, recordAt_reply, mark_reply]
  refine ⟨fun k => ?_, by simp [huctx], ?_, fun hsettled => ?_, fun hmoving => ?_, fun i r hslot hr hroom => ?_, ?_,
    hend.guards, hend.seen, hend.store, hend.link, hend.nextSeq, href, hvalid, hlog, hforced, hoffset, htolerance,
    hinterval, hpolicy, hclasses, hmasked, hend.routes, hend.pending⟩
  · change latchValue (completionCheck u) k = none
    by_cases hsettled : Settled s
    · rw [hdone hsettled, latchValue_congr (targetReached_latches _ _), hclear]
    · rw [hpending hsettled, hclear]
  · by_cases hsettled : Settled s
    · rw [hdone hsettled, targetReached_noCheck hucheck]
    · rw [hpending hsettled, hucheck]
  · rw [hdone hsettled, targetReached_controller]
    refine ⟨rfl, rfl, fun q hroute => mark_targetReached .idle ?_⟩
    rw [routeOf, hkept.routes]
    exact hroute
  · rw [hpending hmoving]
    exact ⟨hmode, htarget⟩
  · exact ⟨_, hrecord hslot hr, rfl, appendEntry_faults hroom _⟩
  · rw [← hend.ports]
    rfl

end Sys2Proof.Machine
end


section
/-! PROOFS. The decision and its verdict (spec/06, spec/10): O40. -/

namespace Sys2Proof.Machine

/-! ## The verdict (R153) -/

theorem recordNoise_iff (r : Record) (o : NoiseOutcome) :
    recordNoise r = some o ↔ ∃ n, r.noise = some n ∧ n.outcome = some o := by
  simp [recordNoise, Option.bind_eq_some_iff]

theorem recordLeak_iff (r : Record) (o : LeakOutcome) :
    recordLeak r = some o ↔ ∃ l, r.leak = some l ∧ l.outcome = some o := by
  simp [recordLeak, Option.bind_eq_some_iff]

/-- What makes a record FAIL (R153). -/
def Fails (r : Record) : Prop :=
  (∃ e ∈ r.faults, e.kind.axle = true) ∨ r.overflow = .axle ∨ (∃ n, r.noise = some n ∧ n.outcome = some .fail) ∨
    ∃ l, r.leak = some l ∧ l.outcome = some .fail

/-- What makes a record that does not fail NO DECISION (R153). -/
def Undecided (r : Record) : Prop :=
  (∃ e ∈ r.faults, e.kind.axle = false) ∨ r.overflow = .equipment ∨
    (∃ n, r.noise = some n ∧ n.outcome = some .incomplete) ∨ ∃ l, r.leak = some l ∧ l.outcome = some .notDecided

theorem fails_iff (r : Record) :
    ((r.faults.any fun e => e.kind.axle) || r.overflow == .axle || recordNoise r == some .fail ||
      recordLeak r == some .fail) = true ↔ Fails r := by
  simp only [Bool.or_eq_true, List.any_eq_true, beq_iff_eq, recordNoise_iff, recordLeak_iff, or_assoc]
  rfl

theorem undecided_iff (r : Record) :
    ((r.faults.any fun e => !e.kind.axle) || r.overflow == .equipment || recordNoise r == some .incomplete ||
      recordLeak r == some .notDecided) = true ↔ Undecided r := by
  simp only [Bool.or_eq_true, List.any_eq_true, beq_iff_eq, recordNoise_iff, recordLeak_iff, or_assoc, Bool.not_eq_true']
  rfl

theorem deriveVerdict_iff (r : Record) :
    (deriveVerdict r = .fail ↔ Fails r) ∧ (deriveVerdict r = .noDecision ↔ ¬Fails r ∧ Undecided r) ∧
    (deriveVerdict r = .pass ↔ ¬Fails r ∧ ¬Undecided r) := by
  rw [← fails_iff, ← undecided_iff]
  unfold deriveVerdict
  split
  case isTrue h =>
    exact ⟨iff_of_true rfl h, iff_of_false (by decide) fun hnot => hnot.1 h, iff_of_false (by decide) fun hnot => hnot.1 h⟩
  case isFalse h =>
    split
    case isTrue h' => simp only [h, h']; decide
    case isFalse h' => simp only [h, h']; decide

/-! ## The noise outcome (R105) -/

/-- A (slot, flank, bin) that the verdict reads: of a used slot, with a limit. -/
def Needed (c : Items) (k : Fin 128) : Prop := order c (k.val / 32) ≠ 0 ∧ limitAt c k.val ≠ 0

theorem peakAboveLimit_iff (c : Items) (n : NoiseSection) :
    peakAboveLimit c n = true ↔ ∃ k : Fin 128, Needed c k ∧ limitAt c k.val < n.peaks[k] := by
  simp only [peakAboveLimit, List.any_eq_true, List.mem_range, Bool.and_eq_true, bne_iff_ne, decide_eq_true_eq, Needed]
  constructor
  · rintro ⟨i, hi, hneeded, habove⟩
    exact ⟨⟨i, hi⟩, hneeded, by simpa [hi] using habove⟩
  · rintro ⟨k, hneeded, habove⟩
    exact ⟨k.val, k.isLt, hneeded, by simpa using habove⟩

theorem coverageMissing_iff (c : Items) (n : NoiseSection) :
    coverageMissing c n = true ↔ ∃ k : Fin 128, Needed c k ∧ n.coverage[k.val % 32]?.getD false = false := by
  simp only [coverageMissing, List.any_eq_true, List.mem_range, Bool.and_eq_true, bne_iff_ne, Bool.not_eq_true', Needed]
  constructor
  · rintro ⟨i, hi, hneeded, hmissing⟩
    exact ⟨⟨i, hi⟩, hneeded, hmissing⟩
  · rintro ⟨k, hneeded, hmissing⟩
    exact ⟨k.val, k.isLt, hneeded, hmissing⟩

theorem noiseOutcome_iff (c : Items) (n : NoiseSection) :
    let above : Prop := ∃ k : Fin 128, Needed c k ∧ limitAt c k.val < n.peaks[k]
    let missing : Prop := ∃ k : Fin 128, Needed c k ∧ n.coverage[k.val % 32]?.getD false = false
    (noiseOutcome c n = .fail ↔ above) ∧ (noiseOutcome c n = .incomplete ↔ ¬above ∧ missing) ∧
    (noiseOutcome c n = .pass ↔ ¬above ∧ ¬missing) := by
  dsimp only
  rw [← peakAboveLimit_iff, ← coverageMissing_iff]
  unfold noiseOutcome
  split
  case isTrue h =>
    exact ⟨iff_of_true rfl h, iff_of_false (by decide) fun hnot => hnot.1 h, iff_of_false (by decide) fun hnot => hnot.1 h⟩
  case isFalse h =>
    split
    case isTrue h' => simp only [h, h']; decide
    case isFalse h' => simp only [h, h']; decide

theorem fixLeak_eq (l : LeakSection) : fixLeak l = { l with outcome := some (l.outcome.getD .notDecided) } := by
  unfold fixLeak
  cases h : l.outcome with
  | none => rfl
  | some o =>
    simp only [Option.isNone_some, Bool.false_eq_true, if_false, Option.getD_some]
    rw [← h]

/-- A passing record has no entry, a passed leak test, and its peaks and its coverage are good (R153). -/
theorem passes_spec {c : TestContext} {r : Record} (h : deriveVerdict (decided (some c) r) = .pass) :
    r.faults = [] ∧ (∀ l, r.leak.map fixLeak = some l → l.outcome = some .pass) ∧
    ∀ n, r.noise.map (fixNoise (some c)) = some n → ∀ k, Needed c.copy k →
      n.peaks[k] ≤ limitAt c.copy k.val ∧ n.coverage[k.val % 32]?.getD false = true := by
  obtain ⟨-, -, hpass⟩ := deriveVerdict_iff (decided (some c) r)
  obtain ⟨hfails, hundecided⟩ := hpass.1 h
  simp only [Fails, not_or] at hfails
  simp only [Undecided, not_or] at hundecided
  obtain ⟨haxle, -, hnoise, hleak⟩ := hfails
  obtain ⟨hequipment, -, hincomplete, hopen⟩ := hundecided
  refine ⟨?_, fun l hl => ?_, fun n hn k hk => ?_⟩
  · refine List.eq_nil_iff_forall_not_mem.2 fun e he => ?_
    cases hkind : e.kind.axle with
    | true => exact haxle ⟨e, he, hkind⟩
    | false => exact hequipment ⟨e, he, hkind⟩
  · obtain ⟨l', -, rfl⟩ := Option.map_eq_some_iff.1 hl
    have houtcome : (fixLeak l').outcome = some (l'.outcome.getD .notDecided) := by rw [fixLeak_eq]
    rw [houtcome]
    cases ho : l'.outcome.getD .notDecided with
    | pass => rfl
    | fail => exact absurd ⟨_, hl, houtcome.trans (by rw [ho])⟩ hleak
    | notDecided => exact absurd ⟨_, hl, houtcome.trans (by rw [ho])⟩ hopen
  · obtain ⟨n', -, rfl⟩ := Option.map_eq_some_iff.1 hn
    obtain ⟨hfail, hmissing, -⟩ := noiseOutcome_iff c.copy n'
    have habove : ¬∃ k : Fin 128, Needed c.copy k ∧ limitAt c.copy k.val < n'.peaks[k] := fun h =>
      hnoise ⟨_, hn, congrArg some (hfail.2 h)⟩
    refine ⟨not_lt.1 fun hlt => habove ⟨k, hk, hlt⟩, ?_⟩
    rw [← Bool.not_eq_false]
    exact fun hclear => hincomplete ⟨_, hn, congrArg some (hmissing.2 ⟨habove, k, hk, hclear⟩)⟩

/-! ## The unchecked count (R128) -/

theorem abandonCheckOf_unchecked (p : CheckKind → Bool) (s : State) :
    (abandonCheckOf p s).zero.unchecked = s.zero.unchecked := by
  unfold abandonCheckOf abandonCheck
  split
  · split
    · split <;> simp
    · rfl
  · rfl

theorem setMode_unchecked (m : Mode) (s : State) : (setMode m s).zero.unchecked = s.zero.unchecked := by
  have hleft : (modeLeft m s).zero.unchecked = s.zero.unchecked := by
    unfold modeLeft
    dsimp only
    rw [abandonCheckOf_unchecked]
    split <;> split <;> rfl
  rw [setMode_eq]
  split
  · simp only [driveEnableFell_frame]
    exact hleft
  · exact hleft

theorem enterSettle_unchecked (x : Target) (s : State) : (enterSettle x s).zero.unchecked = s.zero.unchecked := by
  have hentered : (settleEntered x s).zero.unchecked = s.zero.unchecked := by
    simp [settleEntered, setMode_unchecked]
  rw [enterSettle_eq]
  by_cases h : targetComplete (settleEntered x s) = true
  · rw [completionCheck_reached (by rw [settleEntered_controller]) h]
    simp [targetReached, setMode_unchecked, hentered]
  · rw [completionCheck_pending (by simpa using h), hentered]

theorem endTest_unchecked {s : State} {i : Fin 16} {r : Record} (hslot : onTestSlot s = some i) (hr : recordAt s i = some r) :
    (endTest s).zero.unchecked = if r.zero = some .unchecked then min 255 (s.zero.unchecked + 1) else s.zero.unchecked := by
  unfold endTest
  rw [hslot]
  dsimp only
  rw [hr]
  dsimp only
  rw [endContext_zero, abandonCheckOf_unchecked]
  simp only [State.withZero_zero, countUnchecked]
  split <;> simp

/-- Settles O40: the verdict, the noise outcome and the leak outcome of a decision, and the count that it moves. -/
theorem verdictDerived : Obligations.VerdictDerived := by
  refine ⟨fun r => deriveVerdict_iff r, fun c r => ?_, fun s c i r hopen hc hslot hr hroom => ?_⟩
  · intro needed
    refine ⟨r.noise.map (fixNoise (some c)), r.leak.map fixLeak, _, rfl, rfl, fun h => by rw [h]; rfl,
      fun h => by rw [h]; rfl, fun n hn => ⟨noiseOutcome c.copy n, by rw [hn]; rfl, noiseOutcome_iff c.copy n⟩,
      fun l hl => ?_, passes_spec⟩
    rw [hl, Option.map_some, fixLeak_eq]
  · have hright : Port.cell = Port.line → s.ports.rights.abort = true := fun h => nomatch h
    have hdecide : abortDecide .cell s = (⟨.ok, [byte i.val]⟩, enterSettle .ready (abortTest 2 s)) := by
      rw [abortDecide, hslot]
      rfl
    have hstep : currentStep s = c.step := by rw [currentStep, hc]; rfl
    obtain ⟨hrecord, -⟩ := recordAt_settled hslot hr .ready (u := abortTest 2 s) rfl
    rw [exec_abort hopen hright, hdecide]
    refine ⟨_, rfl, ?_⟩
    simp only [reply_frame, recordAt_reply]
    refine ⟨?_, ?_⟩
    · rw [hrecord, hc, hstep, appendEntry_room hroom]
    · obtain ⟨u, hu⟩ : ∃ u, u = leakUndecided s := ⟨_, rfl⟩
      have hqueue : u.queue = s.queue := by simp [hu]
      have hslot' : onTestSlot (appendFault .aborted 2 u) = some i := by
        rw [appendFault, onTestSlot_post (appendEntry_state _), onTestSlot_congr hqueue, hslot]
      have hr' : recordAt (appendFault .aborted 2 u) i = some (appendEntry ⟨.aborted, currentStep u, 2⟩ r) := by
        rw [appendFault, recordAt_post_of_queue hqueue, if_pos hslot, hr]
        rfl
      have hzero : (appendEntry ⟨.aborted, currentStep u, 2⟩ r).zero = r.zero := by rw [appendEntry_frame]
      rw [enterSettle_unchecked, abortTest, ← hu, endTest_unchecked hslot' hr', hzero]
      simp [hu]

end Sys2Proof.Machine
end


section
/-! PROOFS. The converter's grant rule (R139), and that nothing grants while a conversion is in progress: O32. -/

namespace Sys2Proof.Machine

/-! ## The searches (R139) -/

/-- The place of a requester in the search after a pointer. -/
def searchPlace (pointer : Option Requester) (r : Requester) : Nat :=
  match pointer with
  | none => position r
  | some h => (position r + 3 - position h) % 4

theorem searchOrder_places (pointer : Option Requester) :
    (searchOrder pointer).Pairwise fun x y => searchPlace pointer x < searchPlace pointer y := by
  rcases pointer with _ | (_ | _ | _ | _) <;> decide

theorem mem_searchOrder (pointer : Option Requester) (r : Requester) : r ∈ searchOrder pointer := by
  rcases pointer with _ | (_ | _ | _ | _) <;> cases r <;> decide

/-- A requester of a class has a pending request. -/
def Pending (a : Arbiter) (k : Class) (r : Requester) : Prop := (a.waiting.get r).isSome = true ∧ a.classes.get r = k

theorem searchAfter_none {a : Arbiter} {pointer : Option Requester} {k : Class} :
    searchAfter a pointer k = none ↔ ¬∃ r, Pending a k r := by
  simp only [searchAfter, List.find?_eq_none, Bool.and_eq_true, beq_iff_eq, Pending, not_exists]
  exact ⟨fun h r => h r (mem_searchOrder pointer r), fun h r _ => h r⟩

/-- The search takes the pending requester that it meets first. -/
theorem searchAfter_some {a : Arbiter} {pointer : Option Requester} {k : Class} {r : Requester}
    (h : searchAfter a pointer k = some r) :
    Pending a k r ∧ ∀ q, Pending a k q → q ≠ r → searchPlace pointer r < searchPlace pointer q := by
  obtain ⟨hr, before, after, hsplit, hbefore⟩ := List.find?_eq_some_iff_append.1 h
  refine ⟨by simpa [Pending] using hr, fun q hq hne => ?_⟩
  have hmem := mem_searchOrder pointer q
  have hpairs := searchOrder_places pointer
  rw [hsplit] at hmem hpairs
  rcases List.mem_append.1 hmem with hearly | hlate
  · have hskipped := hbefore q hearly
    rw [Pending] at hq
    simp [hq] at hskipped
  · rcases List.mem_cons.1 hlate with rfl | hlate
    · exact absurd rfl hne
    · exact List.rel_of_pairwise_cons (List.pairwise_append.1 hpairs).2.1 hlate

/-- A request with a conversion is taken: it is no longer pending, and its first conversion is in progress. -/
theorem takeRequest_spec {b : Arbiter} {r : Requester} {q : Request} (hq : b.waiting.get r = some q)
    (hne : q ≠ .burst []) (howner : b.owner = none) :
    ∃ ch, (takeRequest r b).inProgress = some ⟨r, ch, true⟩ ∧ (takeRequest r b).waiting = b.waiting.set r none ∧
      (takeRequest r b).classes = b.classes ∧ (takeRequest r b).lastP = b.lastP ∧
      ((q = .single ch ∧ (takeRequest r b).owner = none) ∨
        ∃ rest, q = .burst (ch :: rest) ∧ (takeRequest r b).owner = some ⟨r, ch :: rest⟩) := by
  unfold takeRequest
  rw [hq]
  match q with
  | .single ch => exact ⟨ch, rfl, rfl, rfl, rfl, .inl ⟨rfl, howner⟩⟩
  | .burst (ch :: rest) => exact ⟨ch, rfl, rfl, rfl, rfl, .inr ⟨rest, rfl, rfl⟩⟩
  | .burst [] => exact absurd rfl hne

theorem takeRequest_pointers (r : Requester) (b : Arbiter) :
    (takeRequest r b).high = b.high ∧ (takeRequest r b).low = b.low ∧ (takeRequest r b).lowDue = b.lowDue := by
  unfold takeRequest
  split <;> exact ⟨rfl, rfl, rfl⟩

/-- The rule with no burst owner. -/
theorem grant_of_noOwner {a : Arbiter} (h : a.owner = none) : grant a = grantRequest a := by
  have hsame : { a with owner := none } = a := by rw [← h]
  unfold grant
  rw [h]
  exact congrArg grantRequest hsame

theorem grantRequest_low {a : Arbiter} (hdue : a.lowDue = true) {r : Requester} (h : searchAfter a a.low .low = some r) :
    grantRequest a = takeRequest r { a with low := some r, lowDue := false } := by
  simp [grantRequest, hdue, h]

theorem grantRequest_high {a : Arbiter} (hlow : ¬(a.lowDue = true ∧ ∃ r, Pending a .low r)) {r : Requester}
    (h : searchAfter a a.high .high = some r) :
    grantRequest a = takeRequest r { a with high := some r, lowDue := a.lowDue || wraps a.high r } := by
  have hskip : (if a.lowDue then searchAfter a a.low .low else none) = none := by
    split
    case isTrue hdue => exact searchAfter_none.2 fun hpending => hlow ⟨hdue, hpending⟩
    case isFalse => rfl
  rw [grantRequest, hskip, h]

theorem grantRequest_rest {a : Arbiter} (hdue : a.lowDue = false) (hhigh : ¬∃ r, Pending a .high r) {r : Requester}
    (h : searchAfter a a.low .low = some r) : grantRequest a = takeRequest r { a with low := some r } := by
  simp [grantRequest, hdue, searchAfter_none.2 hhigh, h]

/-- The grant to a requester (R137, R139): its first conversion is in progress, and a burst has its owner. -/
def Granted (a b : Arbiter) (r : Requester) : Prop :=
  ∃ ch, b.inProgress = some ⟨r, ch, true⟩ ∧ b.waiting = a.waiting.set r none ∧ b.classes = a.classes ∧ b.lastP = a.lastP ∧
    ((a.waiting.get r = some (.single ch) ∧ b.owner = none) ∨
      ∃ rest, a.waiting.get r = some (.burst (ch :: rest)) ∧ b.owner = some ⟨r, ch :: rest⟩)

/-- The requester is the first of its class that the search after a pointer meets. -/
def FirstPending (a : Arbiter) (pointer : Option Requester) (k : Class) (r : Requester) : Prop :=
  Pending a k r ∧ ∀ q, Pending a k q → q ≠ r → searchPlace pointer r < searchPlace pointer q

theorem granted_of_pending {a : Arbiter} {k : Class} {r : Requester} (h : Pending a k r) (howner : a.owner = none)
    (hburst : ∀ r, a.waiting.get r ≠ some (.burst [])) (x y : Option Requester) (due : Bool) :
    Granted a (takeRequest r { a with high := x, low := y, lowDue := due }) r := by
  obtain ⟨q, hq⟩ := Option.isSome_iff_exists.1 h.1
  have hne : q ≠ .burst [] := fun heq => hburst r (by rw [hq, heq])
  obtain ⟨ch, hprogress, hwaiting, hclasses, hlast, hown⟩ :=
    takeRequest_spec (b := { a with high := x, low := y, lowDue := due }) hq hne howner
  refine ⟨ch, hprogress, hwaiting, hclasses, hlast, ?_⟩
  rw [hq]
  rcases hown with ⟨rfl, hnone⟩ | ⟨rest, rfl, hsome⟩
  · exact .inl ⟨rfl, hnone⟩
  · exact .inr ⟨rest, rfl, hsome⟩

theorem searchAfter_pending {a : Arbiter} {pointer : Option Requester} {k : Class} (h : ∃ r, Pending a k r) :
    ∃ r, searchAfter a pointer k = some r ∧ FirstPending a pointer k r := by
  cases hsearch : searchAfter a pointer k with
  | none => exact absurd h (searchAfter_none.1 hsearch)
  | some r => exact ⟨r, rfl, searchAfter_some hsearch⟩

theorem wraps_iff {pointer : Option Requester} {r : Requester} :
    wraps pointer r = true ↔ ∃ h, pointer = some h ∧ position r ≤ position h := by
  cases pointer <;> simp [wraps]

/-! ## What the rule grants (R139) -/

section
variable {a : Arbiter} (howner : a.owner = none) (hburst : ∀ r, a.waiting.get r ≠ some (.burst []))
include howner hburst

/-- With the low slot due, the first pending LOW requester. -/
theorem grant_lowDue (hdue : a.lowDue = true) (h : ∃ r, Pending a .low r) :
    ∃ r, FirstPending a a.low .low r ∧ Granted a (grant a) r ∧ (grant a).lowDue = false ∧ (grant a).low = some r ∧
      (grant a).high = a.high := by
  obtain ⟨r, hsearch, hfirst⟩ := searchAfter_pending (pointer := a.low) h
  have hgrant := (grant_of_noOwner howner).trans (grantRequest_low hdue hsearch)
  obtain ⟨hhigh, hlow, hslot⟩ := takeRequest_pointers r { a with low := some r, lowDue := false }
  rw [hgrant]
  exact ⟨r, hfirst, granted_of_pending hfirst.1 howner hburst _ _ _, hslot, hlow, hhigh⟩

/-- Else the first pending HIGH requester; the low slot falls due where the grant wraps. -/
theorem grant_high (hnotLow : ¬(a.lowDue = true ∧ ∃ r, Pending a .low r)) (h : ∃ r, Pending a .high r) :
    ∃ r, FirstPending a a.high .high r ∧ Granted a (grant a) r ∧ (grant a).high = some r ∧ (grant a).low = a.low ∧
      ((grant a).lowDue = true ↔ a.lowDue = true ∨ ∃ h, a.high = some h ∧ position r ≤ position h) := by
  obtain ⟨r, hsearch, hfirst⟩ := searchAfter_pending (pointer := a.high) h
  have hgrant := (grant_of_noOwner howner).trans (grantRequest_high hnotLow hsearch)
  obtain ⟨hhigh, hlow, hslot⟩ :=
    takeRequest_pointers r { a with high := some r, lowDue := a.lowDue || wraps a.high r }
  rw [hgrant]
  refine ⟨r, hfirst, granted_of_pending hfirst.1 howner hburst _ _ _, hhigh, hlow, ?_⟩
  rw [hslot, Bool.or_eq_true, wraps_iff]

/-- Without a pending HIGH requester, the first pending LOW one; the low slot is then not due. -/
theorem grant_low (hnotHigh : ¬∃ r, Pending a .high r) (h : ∃ r, Pending a .low r) :
    ∃ r, FirstPending a a.low .low r ∧ Granted a (grant a) r ∧ (grant a).low = some r ∧ (grant a).high = a.high ∧
      (grant a).lowDue = false := by
  cases hdue : a.lowDue with
  | true =>
    obtain ⟨r, hfirst, hgranted, hslot, hlow, hhigh⟩ := grant_lowDue howner hburst hdue h
    exact ⟨r, hfirst, hgranted, hlow, hhigh, hslot⟩
  | false =>
    obtain ⟨r, hsearch, hfirst⟩ := searchAfter_pending (pointer := a.low) h
    have hgrant := (grant_of_noOwner howner).trans (grantRequest_rest hdue hnotHigh hsearch)
    obtain ⟨hhigh, hlow, hslot⟩ := takeRequest_pointers r { a with low := some r }
    rw [hgrant]
    exact ⟨r, hfirst, granted_of_pending hfirst.1 howner hburst _ _ _, hlow, hhigh, hslot.trans hdue⟩

end

theorem grant_nothing {a : Arbiter} (howner : a.owner = none) (hnotHigh : ¬∃ r, Pending a .high r)
    (hnotLow : ¬∃ r, Pending a .low r) : grant a = a := by
  rw [grant_of_noOwner howner]
  simp [grantRequest, searchAfter_none.2 hnotHigh, searchAfter_none.2 hnotLow]

/-! ## Requests (R137) -/

theorem request_idle {a : Arbiter} (r : Requester) (q : Request) (hprogress : a.inProgress = none) (howner : a.owner = none) :
    a.request r q = grant { a with waiting := a.waiting.set r (some q) } := by
  simp [Arbiter.request, hprogress, howner]

theorem request_waits {a : Arbiter} (r : Requester) (q : Request) (h : a.inProgress ≠ none ∨ a.owner ≠ none) :
    a.request r q = { a with waiting := a.waiting.set r (some q) } := by
  have hbusy : (a.inProgress.isNone && a.owner.isNone) = false := by
    rw [Bool.and_eq_false_iff, Option.isNone_eq_false_iff, Option.isNone_eq_false_iff, Option.isSome_iff_ne_none,
      Option.isSome_iff_ne_none]
    exact h
  simp [Arbiter.request, hbusy]

end Sys2Proof.Machine
end


section
/-! SUPPORT. What a conversion in progress keeps while its value is delivered (R136, R139): no requester grants before the
completion does. -/

namespace Sys2Proof.Machine

/-! ## The arbiter with a conversion in progress -/

/-- A burst owner is another's, with the same conversions left or none. -/
def OwnerKept (o o' : Option BurstOwner) : Prop :=
  ∀ x, o' = some x → ∃ y, o = some y ∧ x.requester = y.requester ∧ (x.remaining = y.remaining ∨ x.remaining = [])

theorem OwnerKept.rfl {o : Option BurstOwner} : OwnerKept o o := fun x h => ⟨x, h, .refl _, .inl (.refl _)⟩

theorem OwnerKept.trans {o p q : Option BurstOwner} (h : OwnerKept o p) (h' : OwnerKept p q) : OwnerKept o q := by
  intro x hx
  obtain ⟨y, hy, hreq, hleft⟩ := h' x hx
  obtain ⟨z, hz, hreq', hleft'⟩ := h y hy
  refine ⟨z, hz, hreq.trans hreq', ?_⟩
  rcases hleft with hleft | hleft
  · rw [hleft]; exact hleft'
  · exact .inr hleft

/-- What stays of the arbiter while a conversion is in progress, but for the other requesters' requests. -/
structure ArbiterKept (a b : Arbiter) : Prop where
  busy : b.inProgress.isSome = true
  high : b.high = a.high
  low : b.low = a.low
  lowDue : b.lowDue = a.lowDue
  classes : b.classes = a.classes
  spotMasked : b.spotMasked = a.spotMasked
  lastP : b.lastP = a.lastP
  spot : b.waiting.spot = a.waiting.spot
  owner : OwnerKept a.owner b.owner

theorem arbiterKept_request {r : Requester} (hr : r ≠ .spot) (q : Request) {a : Arbiter} (h : a.inProgress.isSome = true) :
    ArbiterKept a (a.request r q) := by
  rw [request_waits r q (.inl (Option.isSome_iff_ne_none.1 h))]
  refine ⟨h, rfl, rfl, rfl, rfl, rfl, rfl, ?_, .rfl⟩
  cases r with
  | spot => exact absurd rfl hr
  | leak | zero | oil => rfl

theorem arbiterKept_withdraw {r : Requester} (hr : r ≠ .spot) {a : Arbiter} (h : a.inProgress.isSome = true) :
    ArbiterKept a (a.withdraw r) := by
  refine ⟨by simpa [Arbiter.withdraw] using h, rfl, rfl, rfl, rfl, rfl, rfl, ?_, ?_⟩
  · cases r with
    | spot => exact absurd rfl hr
    | leak | zero | oil => rfl
  · intro x hx
    obtain ⟨y, hy, hxy⟩ := Option.map_eq_some_iff.1 hx
    refine ⟨y, hy, ?_⟩
    split at hxy <;> subst hxy
    · exact ⟨rfl, .inr rfl⟩
    · exact ⟨rfl, .inl rfl⟩

/-- A requester's part in a delivery: with a conversion in progress the arbiter is kept, and no number is handed out. -/
structure ReadingKept (s t : State) : Prop where
  arbiter : s.conv.inProgress.isSome = true → ArbiterKept s.conv t.conv
  nextSeq : t.queue.nextSeq = s.queue.nextSeq

theorem ReadingKept.of_eq {s t : State} (hconv : t.conv = s.conv) (hseq : t.queue.nextSeq = s.queue.nextSeq) :
    ReadingKept s t :=
  ⟨fun h => by rw [hconv]; exact ⟨h, rfl, rfl, rfl, rfl, rfl, rfl, rfl, .rfl⟩, hseq⟩

theorem ReadingKept.rfl {s : State} : ReadingKept s s := .of_eq (.refl _) (.refl _)

theorem ReadingKept.trans {s t u : State} (h : ReadingKept s t) (h' : ReadingKept t u) : ReadingKept s u := by
  refine ⟨fun hbusy => ?_, h'.nextSeq.trans h.nextSeq⟩
  have ha := h.arbiter hbusy
  have hb := h'.arbiter ha.busy
  exact ⟨hb.busy, hb.high.trans ha.high, hb.low.trans ha.low, hb.lowDue.trans ha.lowDue, hb.classes.trans ha.classes,
    hb.spotMasked.trans ha.spotMasked, hb.lastP.trans ha.lastP, hb.spot.trans ha.spot, ha.owner.trans hb.owner⟩

/-! ## The shared operations -/

theorem reading_request {r : Requester} (hr : r ≠ .spot) (q : Request) (s : State) : ReadingKept s (request r q s) :=
  ⟨arbiterKept_request hr q, rfl⟩

theorem reading_withdraw {r : Requester} (hr : r ≠ .spot) (s : State) : ReadingKept s (withdraw r s) :=
  ⟨arbiterKept_withdraw hr, rfl⟩

theorem reading_requestUnlessPending {r : Requester} (hr : r ≠ .spot) (q : Request) (s : State) :
    ReadingKept s (requestUnlessPending r q s) := by
  unfold requestUnlessPending
  split
  · exact .rfl
  · exact reading_request hr q s

theorem reading_withCtx (s : State) (x : Option TestContext) : ReadingKept s (s.withCtx x) := .of_eq (.refl _) (.refl _)
theorem reading_withMode (s : State) (x : ModeController) : ReadingKept s (s.withMode x) := .of_eq (.refl _) (.refl _)
theorem reading_withDemand (s : State) (x : Demand) : ReadingKept s (s.withDemand x) := .of_eq (.refl _) (.refl _)
theorem reading_withSup (s : State) (x : Supervision) : ReadingKept s (s.withSup x) := .of_eq (.refl _) (.refl _)
theorem reading_withLeak (s : State) (x : LeakController) : ReadingKept s (s.withLeak x) := .of_eq (.refl _) (.refl _)
theorem reading_withZero (s : State) (x : ZeroCheck) : ReadingKept s (s.withZero x) := .of_eq (.refl _) (.refl _)
theorem reading_raise (e : Event) (s : State) : ReadingKept s (raise e s) := .of_eq (.refl _) (.refl _)
theorem reading_abandonBlock (s : State) : ReadingKept s (abandonBlock s) := .of_eq (.refl _) (.refl _)
theorem reading_judgeMonitors (s : State) : ReadingKept s (judgeMonitors s) := .of_eq (by simp) (by simp)
theorem reading_referenceChange (s : State) : ReadingKept s (referenceChange s) := .of_eq (by simp) (by simp)
theorem reading_post (f : Record → Record) (s : State) : ReadingKept s (post f s) := .of_eq (by simp) (post_nextSeq f s)
theorem reading_postLeak (f : LeakSection → LeakSection) (s : State) : ReadingKept s (postLeak f s) := reading_post _ s
theorem reading_postRunIn (f : RunInSection → RunInSection) (s : State) : ReadingKept s (postRunIn f s) := reading_post _ s
theorem reading_appendFault (k : FaultKind) (v : Nat) (s : State) : ReadingKept s (appendFault k v s) := reading_post _ s
theorem reading_modifyAll (f : Record → Record) (s : State) : ReadingKept s (modifyAll f s) := .of_eq (.refl _) (.refl _)
theorem reading_modifyRecord (i : Fin 16) (f : Record → Record) (s : State) : ReadingKept s (modifyRecord i f s) :=
  .of_eq (by simp) (modifyRecord_nextSeq i f s)

/-! ## The Leak Controller -/

theorem reading_leakLeave (s : State) : ReadingKept s (leakLeave s) :=
  (reading_withdraw (by decide) s).trans (reading_withLeak _ _)

theorem reading_leakEnterVent (s : State) : ReadingKept s (leakEnterVent s) :=
  (reading_leakLeave s).trans ((reading_withLeak _ _).trans (reading_requestUnlessPending (by decide) _ _))

theorem reading_leakUndecided (s : State) : ReadingKept s (leakUndecided s) := by
  unfold leakUndecided
  split
  · exact reading_withLeak _ _
  · exact .rfl

theorem reading_leakToVent (s : State) : ReadingKept s (leakToVent s) := by
  unfold leakToVent
  dsimp only
  split
  · exact (reading_leakUndecided s).trans ((reading_leakLeave _).trans (reading_withLeak _ _))
  · exact (reading_leakUndecided s).trans (reading_leakEnterVent _)

theorem reading_postEndReason (n : Nat) (w : EndReason) (s : State) : ReadingKept s (postEndReason n w s) :=
  reading_post _ s

theorem reading_setLeakOutcome (o : LeakOutcome) (s : State) : ReadingKept s (setLeakOutcome o s) :=
  (reading_withLeak _ _).trans (reading_post _ _)

theorem reading_leakInterrupt (w : EndReason) (s : State) : ReadingKept s (leakInterrupt w s) := by
  have hposted : ReadingKept s (postEndReason s.leak.attempts w (leakLeave s)) :=
    (reading_leakLeave s).trans (reading_post _ _)
  unfold leakInterrupt
  dsimp only
  split
  · exact hposted.trans (reading_withLeak _ _)
  · exact hposted.trans ((reading_setLeakOutcome _ _).trans (reading_leakEnterVent _))

theorem reading_leakEnterFill (c : TestContext) (n : Nat) (s : State) : ReadingKept s (leakEnterFill c n s) :=
  (reading_leakLeave s).trans ((reading_withLeak _ _).trans ((reading_post _ _).trans
    (reading_requestUnlessPending (by decide) _ _)))

theorem reading_leakQuietOpening (c : TestContext) (s : State) : ReadingKept s (leakQuietOpening c s) := by
  unfold leakQuietOpening
  split
  · split
    · exact .rfl
    · exact reading_withLeak _ _
  · exact reading_leakEnterFill c 2 s
  all_goals exact .rfl

theorem reading_leakFillReading (v : Nat) (s : State) : ReadingKept s (leakFillReading v s) := by
  unfold leakFillReading
  split
  · exact .rfl
  next c _ =>
    dsimp only
    have hfill := reading_withLeak s { s.leak with lastFill := some v }
    have hsettle := fun x => hfill.trans ((reading_leakLeave _).trans (reading_withLeak _ x))
    split
    · exact hfill
    · split
      · exact (hsettle _).trans (reading_leakQuietOpening c _)
      · exact hsettle _

theorem reading_leakCompute (c : TestContext) (a e : PressureTemp) (s : State) : ReadingKept s (leakCompute c a e s) := by
  have houtcome : ∀ (rate : Nat) (t : State), ReadingKept t
      (if rateLimit c.copy < rate then setLeakOutcome .fail (appendFault .leakRate rate t) else setLeakOutcome .pass t) :=
    fun rate t => by
      split
      · exact (reading_appendFault _ _ t).trans (reading_setLeakOutcome _ _)
      · exact reading_setLeakOutcome _ t
  exact (((reading_postLeak _ s).trans (reading_postEndReason _ _ _)).trans (houtcome _ _)).trans (reading_leakEnterVent _)

theorem reading_leakBurstDone (c : TestContext) (k : BurstKind) (s : State) : ReadingKept s (leakBurstDone c k s) := by
  unfold leakBurstDone
  split
  · exact reading_leakInterrupt _ s
  · dsimp only
    refine (reading_withLeak s { s.leak with burst := none }).trans ?_
    split
    · exact (reading_withLeak _ _).trans (reading_post _ _)
    · split
      · exact (reading_postLeak _ _).trans (reading_leakCompute c _ _ _)
      · exact reading_postLeak _ _

theorem reading_leakReading (ch : Channel) (v : Nat) (s : State) : ReadingKept s (leakReading ch v s) := by
  unfold leakReading
  split
  · split
    · exact reading_leakFillReading v s
    · exact .rfl
  · split
    · dsimp only
      split
      · exact (reading_withLeak s _).trans (reading_leakBurstDone _ _ _)
      · exact reading_withLeak s _
    · exact .rfl
  all_goals exact .rfl

/-! ## The end of a test and the modes -/

theorem reading_abandonCheckOf (p : CheckKind → Bool) (s : State) : ReadingKept s (abandonCheckOf p s) := by
  unfold abandonCheckOf abandonCheck
  split
  · split
    · split
      · exact (reading_withdraw (by decide) s).trans ((reading_withZero _ _).trans (reading_raise _ _))
      · exact .rfl
    · exact .rfl
  · exact .rfl

theorem reading_endContext (s : State) : ReadingKept s (endContext s) := .of_eq (by simp) (by simp)

theorem reading_endTest (s : State) : ReadingKept s (endTest s) := by
  unfold endTest
  split
  · split
    · exact (reading_modifyRecord _ _ s).trans ((reading_raise _ _).trans ((reading_withZero _ _).trans
        ((reading_abandonCheckOf _ _).trans (reading_endContext _))))
    · exact reading_endContext s
  · exact reading_endContext s

theorem reading_driveEnableFell (s : State) : ReadingKept s (driveEnableFell s) :=
  (reading_withdraw (by decide) s).trans (reading_withSup _ _)

theorem reading_modeLeft (m : Mode) (s : State) : ReadingKept s (modeLeft m s) := by
  unfold modeLeft
  refine .trans ?_ (reading_abandonCheckOf _ _)
  split <;> split <;> exact .of_eq (.refl _) (.refl _)

theorem reading_setMode (m : Mode) (s : State) : ReadingKept s (setMode m s) := by
  have hwritten : ReadingKept s (modeWritten m s) := (reading_modeLeft m s).trans (reading_withMode _ _)
  rw [setMode_eq]
  split
  · exact hwritten.trans (reading_driveEnableFell _)
  · exact hwritten

theorem reading_dropTarget (s : State) : ReadingKept s (dropTarget s) := by
  unfold dropTarget
  split
  · exact (reading_withMode _ _).trans (reading_raise _ _)
  · exact .rfl

theorem reading_enterStopped (m : Mode) (s : State) : ReadingKept s (enterStopped m s) :=
  (reading_leakToVent s).trans ((reading_dropTarget _).trans ((reading_endTest _).trans ((reading_setMode m _).trans
    ((reading_withDemand _ _).trans (reading_judgeMonitors _)))))

theorem reading_enterHalt (s : State) : ReadingKept s (enterHalt s) :=
  (reading_raise _ s).trans (reading_enterStopped _ _)

theorem reading_latch (k : LatchKind) (v : Nat) (s : State) : ReadingKept s (latch k v s) := by
  have hreported : ReadingKept s (reported k v s) := by
    refine .of_eq (by simp) ?_
    rw [reported_queue]
    split
    · rfl
    · exact post_nextSeq _ s
  rw [latch_eq]
  split
  · unfold stopCause
    split
    · exact hreported.trans (reading_enterStopped _ _)
    · exact hreported
  · exact hreported

theorem reading_targetReached (x : Target) (s : State) : ReadingKept s (targetReached x s) := by
  have hmode := (reading_withDemand s (demandStopped s.demand)).trans (reading_setMode x.mode _)
  exact (hmode.trans (reading_withMode _ _)).trans ((reading_raise _ _).trans (reading_judgeMonitors _))

theorem reading_completionCheck (s : State) : ReadingKept s (completionCheck s) := by
  cases h : targetComplete s with
  | false => rw [completionCheck_pending h]; exact .rfl
  | true =>
    cases htarget : s.mode.target with
    | none => simp only [completionCheck, htarget]; exact .rfl
    | some x => rw [completionCheck_reached htarget h]; exact reading_targetReached x s

/-! ## FINISH and the Zero Check -/

theorem reading_decisionDue (c : TestContext) (s : State) : ReadingKept s (decisionDue c s) := by
  unfold decisionDue
  split
  · exact (reading_withCtx _ _).trans ((reading_endTest _).trans ((reading_setMode _ _).trans (reading_judgeMonitors _)))
  · exact reading_withCtx _ _

theorem reading_zeroAsk (c : TestContext) (s : State) : ReadingKept s (zeroAsk c s) := by
  unfold zeroAsk
  split
  · exact (reading_withCtx _ _).trans (reading_withZero _ _)
  · exact reading_decisionDue c s

theorem reading_enterZeroWait (c : TestContext) (s : State) : ReadingKept s (enterZeroWait c s) := by
  unfold enterZeroWait
  split
  · exact (reading_withCtx s _).trans (reading_zeroAsk c _)
  · exact reading_withCtx _ _

theorem reading_leakDoneReport (s : State) : ReadingKept s (leakDoneReport s) := by
  unfold leakDoneReport
  split
  · split
    · exact reading_enterZeroWait _ s
    · exact .rfl
  · exact .rfl

theorem reading_answerOf (k : CheckKind) (s : State) : ReadingKept s (answerOf k s) := by
  unfold answerOf zeroAnswer
  split
  · split
    · split
      · exact reading_decisionDue _ s
      · exact .rfl
    · exact .rfl
  · exact .rfl

theorem reading_setCurrent (i : Option (Fin 16)) (z : ZeroStatus) (s : State) : ReadingKept s (setCurrent i z s) := by
  unfold setCurrent
  split
  · exact reading_modifyRecord _ _ s
  · exact .rfl

theorem reading_goodCheck (k : CheckKind) (v : Nat) (s : State) : ReadingKept s (goodCheck k v s) :=
  (reading_setCurrent _ _ s).trans ((reading_modifyAll _ _).trans ((reading_withZero _ _).trans
    ((reading_raise _ _).trans (reading_answerOf k _))))

theorem reading_applyPolicy (k : CheckKind) (s : State) : ReadingKept s (applyPolicy k s) := by
  unfold applyPolicy
  split
  · exact reading_enterHalt s
  · exact (reading_withZero _ _).trans (reading_answerOf k _)

theorem reading_failedCheck (k : CheckKind) (v : Nat) (s : State) : ReadingKept s (failedCheck k v s) := by
  unfold failedCheck
  dsimp only
  have hjudged := fun z g => (reading_setCurrent (currentRecord k s) z s).trans (reading_modifyAll g _)
  have hlogged : ∀ (x : ZeroCheck) (e e' : Event) (t : State),
      ReadingKept t (applyPolicy k (raise e (raise e' (t.withZero x)))) := fun x e e' t =>
    (reading_withZero t x).trans ((reading_raise e' _).trans ((reading_raise e _).trans (reading_applyPolicy k _)))
  split
  · exact ((hjudged _ _).trans (reading_appendFault _ _ _)).trans (hlogged _ _ _ _)
  · exact (hjudged _ _).trans (hlogged _ _ _ _)

theorem reading_judgeCheck (k : CheckKind) (s : State) : ReadingKept s (judgeCheck k s) := by
  unfold judgeCheck
  dsimp only
  have hended := reading_withZero s { s.zero with check := none, timer := .stopped }
  split
  · exact hended.trans ((reading_withZero _ _).trans (reading_goodCheck k _ _))
  · split
    · exact hended.trans (reading_goodCheck k _ _)
    · exact hended.trans (reading_failedCheck k _ _)

theorem reading_zeroReading (v : Nat) (s : State) : ReadingKept s (zeroReading v s) := by
  unfold zeroReading
  split
  · dsimp only
    split
    · exact (reading_withZero s _).trans (reading_judgeCheck _ _)
    · exact reading_withZero s _
  · exact .rfl

/-! ## Oil -/

theorem reading_oilThresholds (c : TestContext) (v : Nat) (s : State) : ReadingKept s (oilThresholds c v s) := by
  have hwarned : ReadingKept s (if oilPrewarn c.copy ≤ v then latch .oilPrewarn v s else s) := by
    split
    · exact reading_latch _ _ s
    · exact .rfl
  unfold oilThresholds
  generalize (if oilPrewarn c.copy ≤ v then latch .oilPrewarn v s else s) = t at hwarned
  dsimp only
  refine hwarned.trans ?_
  split
  · split
    · exact reading_withSup t _
    · exact (reading_withSup t _).trans (reading_latch _ _ _)
  · exact reading_withSup t _

theorem reading_oilReading (expected : Bool) (v : Nat) (s : State) : ReadingKept s (oilReading expected v s) := by
  have hjudge : ∀ t : State, ReadingKept t (oilJudge v t) := fun t => by
    unfold oilJudge
    split
    · split
      · exact reading_oilThresholds _ v t
      · exact reading_withSup _ _
    · exact (reading_withSup _ _).trans (reading_latch _ _ _)
  unfold oilReading
  dsimp only
  have hread := reading_withSup s
  split <;> split
  · exact ((hread _).trans (reading_postRunIn _ _)).trans (hjudge _)
  · exact ((hread _).trans (hjudge _))
  · exact (hread _).trans (reading_postRunIn _ _)
  · exact hread _

/-! ## Delivery (R136) -/

theorem reading_deliver (c : Conversion) (v : Nat) (s : State) : ReadingKept s (deliver c v s) := by
  unfold deliver
  split
  · split
    · exact reading_leakReading _ v s
    · exact .rfl
  · split
    · exact reading_zeroReading v s
    · exact .rfl
  · exact reading_oilReading _ v s
  · exact reading_raise _ s

theorem reading_passPressure (c : Conversion) (v : Nat) (s : State) : ReadingKept s (passPressure c v s) := by
  have hvent : ReadingKept s (ventReading v s) := by
    unfold ventReading
    split
    · exact (reading_leakLeave s).trans ((reading_withLeak _ _).trans (reading_leakDoneReport _))
    · exact .rfl
  unfold passPressure
  split
  · exact hvent.trans (reading_completionCheck _)
  · exact .rfl

end Sys2Proof.Machine
end


section
/-! PROOFS. A completion and the grant that follows it (R136, R139, R140): O32. -/

namespace Sys2Proof.Machine

/-! ## A completion (R136) -/

/-- The arbiter while the value is delivered: the owner's count is down by one, and a P value is the last one. -/
def counted (c : Conversion) (v : Nat) (a : Arbiter) : Arbiter :=
  { a with owner := countDown a.owner, lastP := if c.channel = .p then some v else a.lastP }

/-- The state at the grant that ends a completion. -/
def delivered (c : Conversion) (v : Nat) (s : State) : State := passPressure c v (deliver c v (s.withConv (counted c v s.conv)))

theorem exec_completion {s : State} {c : Conversion} (h : s.conv.inProgress = some c) (v : Word16) :
    exec (.conversionCompletion v) s =
      .next ((delivered c v.toNat s).withConv (grant { (delivered c v.toNat s).conv with inProgress := none })) := by
  have hexec : exec (.conversionCompletion v) s = .next (conversionCompletion v s) := rfl
  rw [hexec, conversionCompletion, h]
  rfl

theorem reading_delivered (c : Conversion) (v : Nat) (s : State) :
    ReadingKept (s.withConv (counted c v s.conv)) (delivered c v s) :=
  (reading_deliver c v _).trans (reading_passPressure c v _)

theorem arbiterKept_delivered {s : State} {c : Conversion} (h : s.conv.inProgress = some c) (v : Nat) :
    ArbiterKept (counted c v s.conv) (delivered c v s).conv :=
  (reading_delivered c v s).arbiter (by rw [State.withConv_conv, counted, h]; rfl)

/-- An owner that is counted down has conversions left, one less than before. -/
theorem countDown_some {o : Option BurstOwner} {x : BurstOwner} (h : countDown o = some x) :
    ∃ c, o = some ⟨x.requester, c :: x.remaining⟩ := by
  unfold countDown at h
  split at h
  · cases h; exact ⟨_, rfl⟩
  · cases h

theorem owner_delivered {s : State} {c : Conversion} (h : s.conv.inProgress = some c) (v : Nat) {r : Requester}
    {left : List Channel} (howner : (delivered c v s).conv.owner = some ⟨r, left⟩) :
    ∃ x xs, s.conv.owner = some ⟨r, x :: xs⟩ ∧ (left = xs ∨ left = []) := by
  obtain ⟨y, hy, hreq, hleft⟩ := (arbiterKept_delivered h v).owner _ howner
  obtain ⟨x, hx⟩ := countDown_some hy
  refine ⟨x, y.remaining, ?_, hleft⟩
  rw [hx, ← hreq]

/-- A SPOT value of TA or TO is raised, and nothing else is done with it. -/
theorem delivered_spot {ch : Channel} {x : Bool} (hch : ch ≠ .p) {s : State} (howner : s.conv.owner = none) (v : Nat) :
    delivered ⟨.spot, ch, x⟩ v s = raise (.convert ch v) s := by
  have hcounted : counted ⟨.spot, ch, x⟩ v s.conv = s.conv := by
    simp only [counted, if_neg hch, howner, countDown]
    rw [← howner]
  rw [delivered, hcounted]
  exact if_neg hch

/-- SPOT CONVERT of an unmasked channel, none outstanding, places its request (R142). -/
theorem exec_spotConvert_free {channel : Byte} {ch : Channel} {s : State} (hopen : PortOpen .cell s)
    (hch : ch.code = channel.toNat) (hmask : s.conv.spotMasked = false) (hfree : s.conv.waiting.spot = none)
    (hother : ∀ c, s.conv.inProgress = some c → c.requester ≠ .spot) :
    exec (.spotConvert .cell channel) s =
      .next (reply .cell ⟨.ok, []⟩ (s.withConv (s.conv.request .spot (.single ch)))) := by
  have hcode : channelOfCode channel.toNat = some ch := hch ▸ channelOfCode_code ch
  have hidle : spotOutstanding s.conv = false := by
    rw [← Bool.not_eq_true, spotOutstanding_iff]
    rintro (h | ⟨c, hc, hspot⟩)
    · exact h hfree
    · exact hother c hc hspot
  rw [exec_spotConvert hopen]
  simp [spotConvertDecide, hcode, hmask, hidle, plain, request]

/-- Settles O32: the class searches take the first pending requester of the class, and a delivery grants nothing itself. -/
theorem grantFollowsClasses : Obligations.GrantFollowsClasses := by
  refine ⟨fun a r c rest howner => ?_, fun a r howner => ?_, fun a howner _ hburst => ?_, fun a r q => ?_,
    fun channel ch s hopen hch hmask hfree => ?_, fun v s c h => ?_, fun v s ch x h hch howner => ?_⟩
  · rw [grant, howner]
  · rw [grant_of_noOwner (a := { a with owner := none }) rfl, grant, howner]
  · exact ⟨grant_lowDue howner hburst, grant_high howner hburst, grant_low howner hburst, grant_nothing howner⟩
  · exact ⟨request_idle r q, request_waits r q⟩
  · refine ⟨fun hprogress howner => ?_, fun c hc hspot => ?_⟩
    · rw [exec_spotConvert_free hopen hch hmask hfree (by simp [hprogress]), request_idle _ _ hprogress howner]
    · have hother : ∀ c', s.conv.inProgress = some c' → c'.requester ≠ .spot := fun c' hc' => by
        rw [hc] at hc'
        cases hc'
        exact hspot
      rw [exec_spotConvert_free hopen hch hmask hfree hother, request_waits _ _ (.inl (by simp [hc]))]
  · have hkept := arbiterKept_delivered h v.toNat
    exact ⟨_, _, exec_completion h v, rfl, rfl, hkept.high, hkept.low, hkept.lowDue, hkept.classes, hkept.spot,
      fun r left howner => owner_delivered h v.toNat howner⟩
  · rw [exec_completion h, delivered_spot hch howner]
    rfl

end Sys2Proof.Machine
end


section
/-! SUPPORT. What the Leak Controller's events do (R109 to R118), and the record ON TEST through posts; the gross leak: O28. -/

namespace Sys2Proof.Machine

/-! ## The record ON TEST through posts -/

/-- The record ON TEST is `r`, in slot `i`. -/
structure Testing (s : State) (i : Fin 16) (r : Record) : Prop where
  slot : onTestSlot s = some i
  record : recordAt s i = some r

theorem Testing.congr {s t : State} {i : Fin 16} {r : Record} (h : Testing s i r) (hqueue : t.queue = s.queue) : Testing t i r :=
  ⟨(onTestSlot_congr hqueue).trans h.slot, (recordAt_congr hqueue i).trans h.record⟩

theorem Testing.post {s : State} {i : Fin 16} {r : Record} (h : Testing s i r) {f : Record → Record}
    (hf : ∀ r, (f r).state = r.state) : Testing (post f s) i (f r) :=
  ⟨(onTestSlot_post hf s).trans h.slot, by rw [recordAt_post, if_pos h.slot, h.record]; rfl⟩

theorem Testing.postLeak {s : State} {i : Fin 16} {r : Record} (h : Testing s i r) (f : LeakSection → LeakSection) :
    Testing (postLeak f s) i { r with leak := r.leak.map f } := h.post fun _ => rfl

theorem Testing.postRunIn {s : State} {i : Fin 16} {r : Record} (h : Testing s i r) (f : RunInSection → RunInSection) :
    Testing (postRunIn f s) i { r with runIn := r.runIn.map f } := h.post fun _ => rfl

theorem Testing.appendFault {s : State} {i : Fin 16} {r : Record} (h : Testing s i r) (k : FaultKind) (v : Nat) :
    Testing (appendFault k v s) i (appendEntry ⟨k, currentStep s, v⟩ r) := h.post (appendEntry_state _)

theorem Testing.appendFault_room {s : State} {i : Fin 16} {r : Record} (h : Testing s i r) (hroom : r.faults.length < 6)
    (k : FaultKind) (v : Nat) :
    Testing (Machine.appendFault k v s) i { r with faults := r.faults ++ [⟨k, currentStep s, v⟩] } :=
  appendEntry_room hroom _ ▸ h.appendFault k v

theorem Testing.withLeak {s : State} {i : Fin 16} {r : Record} (h : Testing s i r) (x : LeakController) :
    Testing (s.withLeak x) i r := h.congr rfl

/-- The end reason of an attempt in the leak section. -/
def endWith (attempt : Nat) (why : EndReason) (l : LeakSection) : LeakSection :=
  if attempt = 1 then { l with endOf1 := some why } else { l with endOf2 := some why }

theorem Testing.postEndReason {s : State} {i : Fin 16} {r : Record} (h : Testing s i r) (n : Nat) (w : EndReason) :
    Testing (postEndReason n w s) i { r with leak := r.leak.map (endWith n w) } := h.postLeak _

theorem Testing.setLeakOutcome {s : State} {i : Fin 16} {r : Record} (h : Testing s i r) (o : LeakOutcome) :
    Testing (setLeakOutcome o s) i { r with leak := r.leak.map fun l => { l with outcome := some o } } :=
  (h.withLeak { s.leak with outcome := some o }).postLeak fun l => { l with outcome := some o }

theorem Testing.leakLeave {s : State} {i : Fin 16} {r : Record} (h : Testing s i r) : Testing (leakLeave s) i r :=
  h.congr (by simp)

theorem Testing.leakEnterVent {s : State} {i : Fin 16} {r : Record} (h : Testing s i r) : Testing (leakEnterVent s) i r :=
  h.congr (by simp)

/-- A post to the leak section alone: the record ON TEST is otherwise as it was. -/
theorem leakPosted_of {f : LeakSection → LeakSection} {s t : State}
    (h : ∀ i r, Testing s i r → Testing t i { r with leak := r.leak.map f }) : LeakPosted f s t := fun i r l hslot hr hl =>
  ⟨_, (h i r ⟨hslot, hr⟩).record, by rw [hl]; rfl⟩

/-! ## The Leak Controller's own state -/

/-- The Leak Controller when it leaves a phase (R109). -/
def leftLeak (l : LeakController) : LeakController :=
  { (if l.burst.isSome then clearBurst l else l) with
    fill := .stopped, settle := .stopped, measure := .stopped, request := .stopped, burst := none }

theorem leakLeave_leak (s : State) : (leakLeave s).leak = leftLeak s.leak := rfl

@[simp] theorem leftLeak_fields (l : LeakController) :
    (leftLeak l).phase = l.phase ∧ (leftLeak l).attempts = l.attempts ∧ (leftLeak l).outcome = l.outcome ∧
    (leftLeak l).fill = .stopped ∧ (leftLeak l).settle = .stopped ∧ (leftLeak l).measure = .stopped ∧
    (leftLeak l).request = .stopped ∧ (leftLeak l).burst = none ∧ (leftLeak l).startValues = l.startValues ∧
    (leftLeak l).lastFill = l.lastFill := by
  unfold leftLeak
  split <;> simp [clearBurst]

/-- Without a burst in progress the counts and sums stay. -/
theorem leftLeak_of_noBurst {l : LeakController} (h : l.burst = none) :
    leftLeak l = { l with fill := .stopped, settle := .stopped, measure := .stopped, request := .stopped } := by
  obtain ⟨_, _, _, _, _, _, _, burst⟩ := l
  cases h
  rfl

theorem requestUnlessPending_leak (r : Requester) (q : Request) (s : State) : (requestUnlessPending r q s).leak = s.leak := by
  simp

theorem requestUnlessPending_queue (r : Requester) (q : Request) (s : State) :
    (requestUnlessPending r q s).queue = s.queue := by
  simp

theorem leakEnterVent_leak (s : State) :
    (leakEnterVent s).leak = { leftLeak s.leak with phase := .vent, request := .running 10 } :=
  requestUnlessPending_leak _ _ _

theorem setLeakOutcome_leak (o : LeakOutcome) (s : State) :
    (setLeakOutcome o s).leak = { s.leak with outcome := some o } := by
  simp [setLeakOutcome]

theorem leakEnterFill_leak (c : TestContext) (n : Nat) (s : State) :
    (leakEnterFill c n s).leak =
      { leftLeak s.leak with
        phase := .fill, attempts := n, lastFill := none, fill := .running (fillTimeout c.copy * 100)
        request := .running 10 } := by
  rw [leakEnterFill, requestUnlessPending_leak]
  simp [leakLeave_leak, Config.leakRequestMs]

/-! ## An attempt begins (R110, R117) -/

/-- A single request of a converter that nothing else asks is granted at its arrival (R137, R139). -/
theorem grant_only {a : Arbiter} {r : Requester} {ch : Channel} (howner : a.owner = none)
    (hasked : a.waiting.get r = some (.single ch)) (hother : ∀ q, q ≠ r → a.waiting.get q = none) :
    (grant a).inProgress = some ⟨r, ch, true⟩ := by
  have hburst : ∀ q, a.waiting.get q ≠ some (.burst []) := fun q => by
    by_cases hq : q = r
    · rw [hq, hasked]; simp
    · rw [hother q hq]; simp
  have honly : ∀ k q, Pending a k q → q = r := fun k q hq => by
    by_contra hne
    have hsome := hq.1
    rw [hother q hne] at hsome
    cases hsome
  have htaken : ∀ k q, Pending a k q → Granted a (grant a) q → (grant a).inProgress = some ⟨r, ch, true⟩ := fun k q hq hg => by
    obtain ⟨ch', hprogress, -, -, -, hcase⟩ := hg
    rw [honly k q hq, hasked] at hcase
    have hch : ch' = ch := by
      rcases hcase with ⟨h, -⟩ | ⟨rest, h, -⟩
      · exact (Request.single.inj (Option.some.inj h)).symm
      · cases h
    rw [hprogress, honly k q hq, hch]
  have hpending : Pending a (a.classes.get r) r := ⟨by rw [hasked]; rfl, rfl⟩
  cases hclass : a.classes.get r with
  | high =>
    have hnotLow : ¬(a.lowDue = true ∧ ∃ q, Pending a .low q) := fun ⟨_, q, hq⟩ => by
      have hlow := hq.2
      rw [honly _ q hq, hclass] at hlow
      cases hlow
    obtain ⟨q, hfirst, hgranted, -⟩ := grant_high howner hburst hnotLow ⟨r, hclass ▸ hpending⟩
    exact htaken _ q hfirst.1 hgranted
  | low =>
    have hnotHigh : ¬∃ q, Pending a .high q := fun ⟨q, hq⟩ => by
      have hhigh := hq.2
      rw [honly _ q hq, hclass] at hhigh
      cases hhigh
    obtain ⟨q, hfirst, hgranted, -⟩ := grant_low howner hburst hnotHigh ⟨r, hclass ▸ hpending⟩
    exact htaken _ q hfirst.1 hgranted

theorem leakEnterFill_conv (c : TestContext) (n : Nat) (s : State) :
    (leakEnterFill c n s).conv = (s.conv.withdraw .leak).request .leak (.single .p) := by
  have hfree : ∀ t : State, t.conv = s.conv.withdraw .leak →
      (requestUnlessPending .leak (.single .p) t).conv = (s.conv.withdraw .leak).request .leak (.single .p) := fun t ht => by
    rw [requestUnlessPending_of_free _ (by rw [ht]; exact Bool.false_ne_true), request, State.withConv_conv, ht]
  exact hfree _ (by simp [leakLeave, withdraw])

theorem attemptBegins_enterFill (c : TestContext) (n : Nat) (s : State) : AttemptBegins c n s (leakEnterFill c n s) := by
  have hleak := leakEnterFill_leak c n s
  have hconv := leakEnterFill_conv c n s
  have hposted : LeakPosted (fun l => { l with attempts := n }) s (leakEnterFill c n s) :=
    leakPosted_of fun i r h =>
      ((h.leakLeave.withLeak _).postLeak fun l => { l with attempts := n }).congr (requestUnlessPending_queue _ _ _)
  refine ⟨by rw [hleak], by rw [hleak], by rw [hleak]; simp, by rw [hleak], by rw [hleak], by rw [hleak], hposted,
    fun hbusy => ?_, fun hidle howner hfree => ?_⟩
  · rw [hconv, request_waits _ _ (.inl (by simpa [Arbiter.withdraw, Option.isSome_iff_ne_none] using hbusy))]
    rfl
  · rw [hconv, request_idle _ _ (by simp [Arbiter.withdraw, hidle]) (by simp [Arbiter.withdraw, howner])]
    refine grant_only (by simp [Arbiter.withdraw, howner]) (by simp) fun q hq => ?_
    simp [Arbiter.withdraw, hq, hfree q hq]

/-! ## An attempt is interrupted (R112, R116, R118) -/

theorem leakInterruptible_iff (s : State) : leakInterruptible s.leak = true ↔ Interruptible s := by
  simp [leakInterruptible, Interruptible]

theorem attemptInterrupted_leakInterrupt (why : EndReason) (s : State) :
    AttemptInterrupted why s (leakInterrupt why s) := by
  have hended : ∀ i r, Testing s i r → Testing (postEndReason s.leak.attempts why (leakLeave s)) i
      { r with leak := r.leak.map (endWith s.leak.attempts why) } := fun i r h => h.leakLeave.postEndReason _ _
  have hleak : (postEndReason s.leak.attempts why (leakLeave s)).leak = leftLeak s.leak := by simp [leakLeave_leak]
  by_cases hfirst : s.leak.attempts = 1
  · have hstate : leakInterrupt why s = (postEndReason s.leak.attempts why (leakLeave s)).withLeak
        { leftLeak s.leak with phase := .wait } := by rw [leakInterrupt, if_pos hfirst, hleak]
    rw [hstate]
    refine ⟨by simp, by simp, by simp, by simp, fun _ => ⟨rfl, by simp, leakPosted_of fun i r h => ?_⟩,
      fun h => absurd hfirst h⟩
    have hpost := (hended i r h).congr (t := (postEndReason s.leak.attempts why (leakLeave s)).withLeak
      { leftLeak s.leak with phase := .wait }) rfl
    have hend : endWith s.leak.attempts why = fun l => { l with endOf1 := some why } := funext fun _ => if_pos hfirst
    rwa [hend] at hpost
  · have hstate : leakInterrupt why s =
        leakEnterVent (setLeakOutcome .notDecided (postEndReason s.leak.attempts why (leakLeave s))) := by
      rw [leakInterrupt, if_neg hfirst]
    rw [hstate, AttemptInterrupted, leakEnterVent_leak, setLeakOutcome_leak, hleak]
    refine ⟨by simp, by simp, by simp, by simp, fun h => absurd h hfirst, fun _ => ⟨rfl, by simp, leakPosted_of fun i r h => ?_⟩⟩
    have hpost := ((hended i r h).setLeakOutcome .notDecided).leakEnterVent
    have hend : endWith s.leak.attempts why = fun l => { l with endOf2 := some why } := funext fun _ => if_neg hfirst
    rw [hend] at hpost
    rw [Option.map_map] at hpost
    exact hpost

/-! ## A quiet opening (R112, R117) -/

theorem quietOpening_leakQuietOpening (c : TestContext) (s : State) : QuietOpening c s (leakQuietOpening c s) := by
  have hsettle : s.leak.phase = .settle → leakQuietOpening c s =
      if s.leak.settle.isRunning then s else s.withLeak { s.leak with settle := .running (leakSettleTime c.copy * 100) } :=
    fun h => by rw [leakQuietOpening, h]
  refine ⟨fun hphase hstopped => ?_, fun hphase => ?_, fun hnotWait hnotSettle => ?_⟩
  · rw [hsettle hphase, hstopped]
    rfl
  · have hfill : leakQuietOpening c s = leakEnterFill c 2 s := by rw [leakQuietOpening, hphase]
    rw [hfill]
    exact attemptBegins_enterFill c 2 s
  · cases hphase : s.leak.phase with
    | wait => exact absurd hphase hnotWait
    | settle =>
      have hrunning : s.leak.settle.isRunning = true := by
        cases hsettle : s.leak.settle with
        | running => rfl
        | stopped => exact absurd ⟨hphase, hsettle⟩ hnotSettle
      rw [hsettle hphase, if_pos hrunning]
    | idle | fill | measure | vent | done => rw [leakQuietOpening, hphase]

/-! ## The gross leak (R111) -/

theorem grossLeak_leak (s : State) :
    (grossLeak s).leak =
      { leftLeak { leftLeak s.leak with outcome := some .fail } with phase := .vent, request := .running 10 } := by
  simp [grossLeak, leakEnterVent_leak, setLeakOutcome_leak, leakLeave_leak]

theorem Testing.grossLeak {s : State} {i : Fin 16} {r : Record} (h : Testing s i r) (hroom : r.faults.length < 6) :
    Testing (grossLeak s) i { r with
      faults := r.faults ++ [⟨.leakGross, currentStep s, s.leak.lastFill.getD 0⟩]
      leak := (r.leak.map fun l => { l with outcome := some .fail }).map (endWith s.leak.attempts .gross) } := by
  have hstep : currentStep (Machine.setLeakOutcome .fail (Machine.leakLeave s)) = currentStep s := by simp [currentStep]
  have happended := (h.leakLeave.setLeakOutcome .fail).appendFault_room hroom .leakGross (s.leak.lastFill.getD 0)
  rw [hstep] at happended
  exact (happended.postEndReason s.leak.attempts .gross).leakEnterVent

/-- Settles O28: the entry into VENT after the posted outcome and fault entry. -/
theorem fillExpiryIsGross : Obligations.FillExpiryIsGross := by
  intro s hphase hrunning
  have hexec : exec .fillTimerExpiry s = .next (fillExpiry s) := rfl
  rw [hexec, fillExpiry, if_pos ⟨hphase, hrunning⟩]
  have hleak := grossLeak_leak s
  have hvent : (grossLeak s).leak.phase = .vent := by rw [hleak]
  refine ⟨_, rfl, by apply State.eq_of_fields <;> simp [grossLeak], hvent, by rw [hleak]; simp, by rw [hleak]; simp,
    by rw [hleak], by rw [hleak]; simp, ?_, ?_, fun i r l hslot hr hl hroom => ?_⟩
  · rw [Bool.eq_false_iff, Ne, fillOutput_iff, hvent]
    simp
  · rw [ventOutput_iff, hvent]
    simp
  · rw [(Testing.grossLeak ⟨hslot, hr⟩ hroom).record, hl]
    by_cases hfirst : s.leak.attempts = 1 <;> simp [endWith, hfirst]

end Sys2Proof.Machine
end


section
/-! PROOFS. PAUSE and RESUME on a test (R12, R49, R50): O11, O12. -/

namespace Sys2Proof.Machine

/-! ## The Leak Controller at the end of other operations -/

/-- The converter with nothing in progress, no burst and no request but LEAK's. -/
def Unasked (a : Arbiter) : Prop := a.inProgress = none ∧ a.owner = none ∧ ∀ r, r ≠ .leak → a.waiting.get r = none

/-- What happens before an event of the Leak Controller leaves it, its section of the record ON TEST, and its way to the converter. -/
structure LeakReady (s t : State) : Prop where
  leak : t.leak = s.leak
  sections : ∀ i r, Testing s i r → ∃ r', Testing t i r' ∧ r'.leak = r.leak
  busy : s.conv.inProgress.isSome = true → t.conv.inProgress.isSome = true
  unasked : Unasked s.conv → Unasked t.conv

theorem LeakReady.trans {s t u : State} (h : LeakReady s t) (h' : LeakReady t u) : LeakReady s u := by
  refine ⟨h'.leak.trans h.leak, fun i r hr => ?_, h'.busy ∘ h.busy, h'.unasked ∘ h.unasked⟩
  obtain ⟨r', hr', hl⟩ := h.sections i r hr
  obtain ⟨r'', hr'', hl'⟩ := h'.sections i r' hr'
  exact ⟨r'', hr'', hl'.trans hl⟩

theorem LeakReady.of_eq {s t : State} (hleak : t.leak = s.leak) (hconv : t.conv = s.conv) (hqueue : t.queue = s.queue) :
    LeakReady s t :=
  ⟨hleak, fun _ r hr => ⟨r, hr.congr hqueue, rfl⟩, fun h => by rw [hconv]; exact h, fun h => by rw [hconv]; exact h⟩

theorem leakReady_withdraw {r : Requester} (s : State) : LeakReady s (withdraw r s) := by
  refine ⟨rfl, fun i x hx => ⟨x, hx.congr rfl, rfl⟩, fun h => ?_, fun ⟨hidle, howner, hfree⟩ => ⟨?_, ?_, fun q hq => ?_⟩⟩
  · simpa [withdraw, Arbiter.withdraw] using h
  · simp [withdraw, Arbiter.withdraw, hidle]
  · simp [withdraw, Arbiter.withdraw, howner]
  · simp [withdraw, Arbiter.withdraw, hfree q hq]

theorem leakReady_postRunIn (f : RunInSection → RunInSection) (s : State) : LeakReady s (postRunIn f s) :=
  ⟨by simp, fun _ _ hr => ⟨_, hr.postRunIn f, rfl⟩, fun h => by simpa using h, fun h => by simpa using h⟩

theorem leakReady_abandonCheckOf (p : CheckKind → Bool) (s : State) : LeakReady s (abandonCheckOf p s) := by
  unfold abandonCheckOf abandonCheck
  split
  · split
    · split
      · exact (leakReady_withdraw (r := .zero) s).trans (.of_eq rfl rfl rfl)
      · exact .of_eq rfl rfl rfl
    · exact .of_eq rfl rfl rfl
  · exact .of_eq rfl rfl rfl

theorem leakReady_setMode (m : Mode) (s : State) : LeakReady s (setMode m s) := by
  have hwritten : LeakReady s (modeWritten m s) := by
    unfold modeWritten modeLeft
    refine .trans ?_ (.trans (leakReady_abandonCheckOf _ _) (.of_eq rfl rfl rfl))
    split <;> split <;> exact .of_eq rfl rfl rfl
  rw [setMode_eq]
  split
  · exact hwritten.trans ((leakReady_withdraw (r := .oil) _).trans (.of_eq rfl rfl rfl))
  · exact hwritten

/-- What happens after the event leaves the Leak Controller, the converter and the records. -/
structure LeakDone (s t : State) : Prop where
  leak : t.leak = s.leak
  conv : t.conv = s.conv
  queue : t.queue = s.queue

section
variable {s s' t t' : State} (h : LeakReady s s') (h' : LeakDone t' t)
include h h'

theorem LeakPosted.widen {f : LeakSection → LeakSection} (hp : LeakPosted f s' t') : LeakPosted f s t := by
  intro i r l hslot hr hl
  obtain ⟨r', hr', hsame⟩ := h.sections i r ⟨hslot, hr⟩
  obtain ⟨u, hu, hul⟩ := hp i r' l hr'.slot hr'.record (hsame.trans hl)
  exact ⟨u, (recordAt_congr h'.queue i).trans hu, hul⟩

theorem AttemptBegins.widen {c : TestContext} {n : Nat} (hb : AttemptBegins c n s' t') : AttemptBegins c n s t := by
  obtain ⟨hphase, hattempts, houtcome, hlast, hfill, hrequest, hposted, hwaits, hgranted⟩ := hb
  rw [AttemptBegins, h'.leak, h'.conv]
  refine ⟨hphase, hattempts, houtcome.trans (by rw [h.leak]), hlast, hfill, hrequest, hposted.widen h h',
    fun hbusy => hwaits (h.busy hbusy), fun hidle howner hfree => ?_⟩
  obtain ⟨hidle', howner', hfree'⟩ := h.unasked ⟨hidle, howner, hfree⟩
  exact hgranted hidle' howner' hfree'

theorem AttemptInterrupted.widen {why : EndReason} (hi : AttemptInterrupted why s' t') : AttemptInterrupted why s t := by
  obtain ⟨hsettle, hmeasure, hburst, hattempts, hfirst, hsecond⟩ := hi
  rw [h.leak] at hattempts hfirst hsecond
  rw [AttemptInterrupted, h'.leak]
  refine ⟨hsettle, hmeasure, hburst, hattempts, fun hone => ?_, fun htwo => ?_⟩
  · obtain ⟨hphase, houtcome, hposted⟩ := hfirst hone
    exact ⟨hphase, houtcome, hposted.widen h h'⟩
  · obtain ⟨hphase, houtcome, hposted⟩ := hsecond htwo
    exact ⟨hphase, houtcome, hposted.widen h h'⟩

theorem QuietOpening.widen {c : TestContext} (hq : QuietOpening c s' t') : QuietOpening c s t := by
  obtain ⟨hsettle, hwait, helse⟩ := hq
  rw [h.leak] at hsettle hwait helse
  rw [QuietOpening, h'.leak]
  exact ⟨hsettle, fun hphase => (hwait hphase).widen h h', helse⟩

end

/-! ## PAUSE (R12, R49, R116) -/

theorem pauseRunIn_eq {s : State} {c : TestContext} (hc : s.ctx = some c) (hphase : c.phase.isFinish = false) :
    pauseRunIn s =
      (s.withCtx (some { c with stepTimer := c.stepTimer.freeze })).withDemand
        { s.demand with ramp := some ⟨s.demand.speed, 0, 2000, 0⟩, wheel := 0 } := by
  rw [pauseRunIn, hc]
  simp only [hphase, Bool.false_eq_true, if_false]
  rfl

/-- The state of an operator pause at the Leak Controller's entry to PAUSE. -/
def pausing (c : TestContext) (s : State) : State :=
  let s := setMode .pause s
  let s := s.withMode { s.mode with pauseKind := .operator }
  (s.withCtx (some { c with stepTimer := c.stepTimer.freeze })).withDemand
    { s.demand with ramp := some ⟨s.demand.speed, 0, 2000, 0⟩, wheel := 0 }

theorem enterPause_operator {s : State} {c : TestContext} (hc : s.ctx = some c) (hphase : c.phase.isFinish = false) :
    enterPause .operator s = referenceChange (leakPause (pausing c s)) := by
  have hctx : ((setMode .pause s).withMode { (setMode .pause s).mode with pauseKind := .operator }).ctx = some c := by
    simp [hc]
  rw [pausing, ← pauseRunIn_eq hctx hphase]
  rfl

/-- What an operator pause sets up, before the Leak Controller's part. -/
theorem pausing_spec (c : TestContext) {s : State} (hmode : s.mode.mode = .run) :
    (pausing c s).mode.mode = .pause ∧ (pausing c s).mode.pauseKind = .operator ∧
    (pausing c s).demand = { s.demand with ramp := some ⟨s.demand.speed, 0, 2000, 0⟩, wheel := 0 } ∧
    (pausing c s).ctx = some { c with stepTimer := c.stepTimer.freeze } ∧ (pausing c s).leak = s.leak ∧
    (pausing c s).noise.block = none ∧ (pausing c s).sup.latches = s.sup.latches ∧ SettingsKept s (pausing c s) := by
  have hmodeKept : SettingsKept (setMode .pause s)
      ((setMode .pause s).withMode { (setMode .pause s).mode with pauseKind := .operator }) := by constructor <;> rfl
  refine ⟨by simp [pausing, setMode_mode], rfl, by simp [pausing], rfl, by simp [pausing], ?_, ?_, ?_⟩
  · simp [pausing, setMode_noise, hmode]
  · simp [pausing, setMode_latches]
  · exact ((kept_setMode .pause s).trans hmodeKept).trans ((kept_withCtx _ _).trans (kept_withDemand _ _))

theorem leakReady_pausing (c : TestContext) (s : State) : LeakReady s (pausing c s) :=
  (leakReady_setMode .pause s).trans (.of_eq rfl rfl rfl)

theorem leakDone_referenceChange (s : State) : LeakDone s (referenceChange s) := by constructor <;> simp

/-- Settles O11: the pause on the context and the demand, then the Leak Controller's part. -/
theorem pauseEntered : Obligations.PauseEntered := by
  intro p s c hopen hhold hmode hc hphase
  have hdecide : pauseDecide s = (plain .ok, enterPause .operator s) := by rw [pauseDecide, if_pos hmode]
  rw [exec_pauseRequest hopen hhold, hdecide, enterPause_operator hc hphase]
  obtain ⟨hpause, hkind, hdemand, hctx, hleak, hblock, hlatches, hkept⟩ := pausing_spec c hmode
  have hready := leakReady_pausing c s
  generalize pausing c s = u at *
  have hinterruptible : Interruptible u ↔ Interruptible s := by rw [Interruptible, hleak]; rfl
  refine ⟨_, rfl, ?_⟩
  simp only [reply_frame, reply_held, referenceChange_frame, leakPause_frame, referenceChange_latches]
  refine ⟨hpause, hkind, hdemand, hctx, rfl, fun h => ?_, fun h => ?_, hblock, hlatches, hkept.store, hkept.link,
    hkept.routes, hkept.pending⟩
  · have hleakPause : leakPause u = leakInterrupt .pause u := if_pos ((leakInterruptible_iff u).2 (hinterruptible.2 h))
    rw [hleakPause]
    exact (attemptInterrupted_leakInterrupt .pause u).widen hready (by constructor <;> simp)
  · have hleakPause : leakPause u = u := if_neg fun hu => h (hinterruptible.1 ((leakInterruptible_iff u).1 hu))
    rw [hleakPause, hleak]

/-! ## RESUME (R12, R50) -/

theorem resumeRunIn_moving {s : State} {c : TestContext} (hc : s.ctx = some c) (hphase : c.phase.moving = true) :
    resumeRunIn s = resumeStep c s := by
  rcases (moving_iff c).1 hphase with hphase | hphase <;> rw [resumeRunIn, hc] <;> simp only [hphase]

theorem supplyJudge_good {s : State} (h : supplyBad s = false) : supplyJudge s = s := by
  rw [supplyJudge, h, Bool.and_false]
  exact if_neg Bool.false_ne_true

/-- The state of a RESUME at the Leak Controller's quiet opening. -/
def resuming (c : TestContext) (s : State) : State :=
  (referenceChange (setMode .run s)).withCtx (some { c with phase := .ramp, resumeRamp := true })

/-- The quiet opening of a leak-quiet step. -/
def openQuiet (c : TestContext) (s : State) : State := if leakQuiet c.copy c.step then leakQuietOpening c s else s

@[simp] theorem openQuiet_frame (c : TestContext) (s : State) :
    (openQuiet c s).mode = s.mode ∧ (openQuiet c s).store = s.store ∧ (openQuiet c s).demand = s.demand ∧
    (openQuiet c s).ctx = s.ctx ∧ (openQuiet c s).link = s.link ∧ (openQuiet c s).sup = s.sup ∧
    (openQuiet c s).ports = s.ports ∧ (openQuiet c s).pending = s.pending := by
  unfold openQuiet
  split <;> simp

theorem supplyBad_congr {s t : State} (h : t.link = s.link) : supplyBad t = supplyBad s := by
  simp [supplyBad, lowestDrive, held, h]

theorem resume_moving {s : State} {c : TestContext} (hc : s.ctx = some c) (hphase : c.phase.moving = true)
    (htime : rampTime c.copy c.step ≠ 0) (hsupply : supplyBad s = false) :
    resume s =
      referenceChange (((openQuiet { c with resumeRamp := true } (resuming c s)).withCtx
        (some { c with phase := .ramp, resumeRamp := true })).withDemand (rampDemand c s.demand)) := by
  have hctx : (referenceChange (setMode .run s)).ctx = some c := by simp [hc]
  have hopened : (openQuiet { c with resumeRamp := true } (resuming c s)).ctx =
      some { c with phase := .ramp, resumeRamp := true } := by simp [resuming]
  have hdemand : (openQuiet { c with resumeRamp := true } (resuming c s)).demand = s.demand := by simp [resuming]
  have hlink : (openQuiet { c with resumeRamp := true } (resuming c s)).link = s.link := by simp [resuming]
  have hstep : resumeStep c (referenceChange (setMode .run s)) =
      sequence .enterRamp (openQuiet { c with resumeRamp := true } (resuming c s)) := rfl
  rw [resume, resumeRunIn_moving hctx hphase, hstep]
  generalize openQuiet { c with resumeRamp := true } (resuming c s) = u at *
  rw [sequence_enterRamp hopened htime, hdemand]
  refine supplyJudge_good ?_
  rw [supplyBad_congr (s := s) (by simp [hlink]), hsupply]

/-- Settles O12: the mode, the quiet opening, and the resume ramp. -/
theorem resumeEntered : Obligations.ResumeEntered := by
  intro p s c hopen hhold hmode hkind hc hphase htime hsupply
  have hdecide : resumeDecide s = (plain .ok, resume s) := by rw [resumeDecide, if_pos ⟨hmode, hkind⟩]
  rw [exec_resumeRequest hopen hhold, hdecide, resume_moving hc hphase htime hsupply]
  have hcontroller : (resuming c s).mode.mode = .run ∧ (resuming c s).mode.pauseKind = .none := by
    simp [resuming, setMode_controller]
  have hleak : (resuming c s).leak = s.leak := by simp [resuming]
  have hlatches : (resuming c s).sup.latches = s.sup.latches := by
    simp [resuming, referenceChange_latches, setMode_latches]
  have hkept : SettingsKept s (resuming c s) :=
    (kept_setMode .run s).trans ((kept_referenceChange _).trans (kept_withCtx _ _))
  have hready : LeakReady s (resuming c s) :=
    (leakReady_setMode .run s).trans (.of_eq (by simp [resuming]) (by simp [resuming]) (by simp [resuming]))
  generalize resuming c s = u at *
  refine ⟨_, rfl, ?_⟩
  simp only [reply_frame, reply_held, referenceChange_frame, referenceChange_latches, State.withDemand_mode,
    State.withDemand_ctx, State.withDemand_demand, State.withDemand_sup, State.withDemand_store, State.withDemand_link,
    State.withDemand_pending, State.withCtx_mode, State.withCtx_ctx, State.withCtx_sup, State.withCtx_store,
    State.withCtx_link, State.withCtx_pending, State.withDemand_leak, State.withCtx_leak, openQuiet_frame,
    true_and]
  refine ⟨hcontroller.1, hcontroller.2, rfl, fun hquiet => ?_, fun hloud => ?_, rfl, hlatches, hkept.store, hkept.link,
    hkept.pending⟩
  · have hopening : openQuiet { c with resumeRamp := true } u = leakQuietOpening { c with resumeRamp := true } u :=
      if_pos hquiet
    rw [hopening]
    exact (quietOpening_leakQuietOpening { c with resumeRamp := true } u).widen hready (by constructor <;> simp)
  · have hopening : openQuiet { c with resumeRamp := true } u = u := if_neg (by simp [hloud])
    rw [hopening, hleak]

end Sys2Proof.Machine
end


section
/-! PROOFS. The patched working copy, and what a sequence of steps at START leaves of the record (R34, R38, R40, R148): O38. -/

namespace Sys2Proof.Machine

/-! ## The patched copy (R34) -/

theorem itemOffset_lt {t : ItemRef} {o : Nat} (h : itemOffset t = some o) : o < 436 := by
  unfold itemOffset at h
  grind

/-- An item of the copy with one more entry. -/
theorem item_setItem (r : Items) (t : ItemRef) (v k : Nat) :
    item (setItem r t v) k = if itemOffset t = some k then v else item r k := by
  unfold setItem
  split
  case h_1 o ho =>
    have hfits : (o = k ∧ k < 436) ↔ itemOffset t = some k := by
      rw [ho, Option.some.injEq]
      exact ⟨And.left, fun hk => ⟨hk, hk ▸ itemOffset_lt ho⟩⟩
    rw [item_setIfInBounds]
    simp only [hfits, ho]
  case h_2 hnone => simp [hnone]

theorem patchApplies_iff (st : RecipeStore) (recipe : Nat) (e : Fin 8) :
    patchApplies st recipe e = true ↔ (st.patches[e]).enabled = true ∧ (st.patches[e]).recipe = recipe := by
  simp [patchApplies]

theorem allEntries_sorted : allEntries.Pairwise (· < ·) := by decide

/-- Entries applied in their order: an item has the value of the last entry that names it, or its own. -/
theorem item_foldl_setItem (st : RecipeStore) (k : Nat) (r : Items) (l : List (Fin 8)) :
    (∀ acc : Items, acc = l.foldl (fun acc e => setItem acc (st.patches[e]).target (st.patches[e]).value) r →
      ((∀ e ∈ l, itemOffset (st.patches[e]).target ≠ some k) → item acc k = item r k) ∧
      ∀ e before after, l = before ++ e :: after → itemOffset (st.patches[e]).target = some k →
        (∀ f ∈ after, itemOffset (st.patches[f]).target ≠ some k) → item acc k = (st.patches[e]).value) := by
  induction l generalizing r with
  | nil => exact fun acc hacc => ⟨fun _ => by rw [hacc]; rfl, fun e before after h => by simp at h⟩
  | cons x xs ih =>
    intro acc hacc
    obtain ⟨huntouched, hlast⟩ := ih (setItem r (st.patches[x]).target (st.patches[x]).value) acc hacc
    refine ⟨fun hnone => ?_, fun e before after hsplit he hafter => ?_⟩
    · rw [huntouched fun e he => hnone e (List.mem_cons_of_mem x he), item_setItem, if_neg (hnone x List.mem_cons_self)]
    · cases before with
      | nil =>
        obtain ⟨rfl, rfl⟩ : x = e ∧ xs = after := by simpa using hsplit
        rw [huntouched hafter, item_setItem, if_pos he]
      | cons y ys =>
        obtain ⟨rfl, htail⟩ : x = y ∧ xs = ys ++ e :: after := by simpa using hsplit
        exact hlast e ys after htail he hafter

section
variable {st : RecipeStore} {recipe : Nat} {r : Items}

theorem item_patchedCopy_untouched {k : Nat}
    (h : ∀ e, patchApplies st recipe e = true → itemOffset (st.patches[e]).target ≠ some k) :
    item (patchedCopy st recipe r) k = item r k :=
  (item_foldl_setItem st k r _ _ rfl).1 fun e he => h e (List.mem_filter.1 he).2

/-- In a sorted list the entries after one of it are the later ones. -/
theorem item_patchedCopy_last {k : Nat} {e : Fin 8} (happlies : patchApplies st recipe e = true)
    (he : itemOffset (st.patches[e]).target = some k)
    (hlast : ∀ f, e < f → patchApplies st recipe f = true → itemOffset (st.patches[f]).target ≠ some k) :
    item (patchedCopy st recipe r) k = (st.patches[e]).value := by
  have hmem : e ∈ allEntries.filter (patchApplies st recipe) := List.mem_filter.2 ⟨mem_allEntries e, happlies⟩
  have hsorted : (allEntries.filter (patchApplies st recipe)).Pairwise (· < ·) := allEntries_sorted.filter _
  obtain ⟨before, after, hsplit⟩ := List.append_of_mem hmem
  refine (item_foldl_setItem st k r _ _ rfl).2 e before after hsplit he fun f hf => ?_
  have hlater : e < f := by
    rw [hsplit, List.pairwise_append] at hsorted
    exact List.rel_of_pairwise_cons hsorted.2.1 hf
  have hof : f ∈ allEntries.filter (patchApplies st recipe) := by rw [hsplit]; simp [hf]
  exact hlast f hlater (List.mem_filter.1 hof).2

/-- An entry is charged with a failed check: it applies, and the check examines its target. -/
def Charged (st : RecipeStore) (recipe : Nat) (x : RecipeCheck) (e : Fin 8) : Prop :=
  patchApplies st recipe e = true ∧ (st.patches[e]).target ∈ x.examined

theorem charged_iff {x : RecipeCheck} {e : Fin 8} :
    (patchApplies st recipe e && x.examined.contains (st.patches[e]).target) = true ↔ Charged st recipe x e := by
  simp [Charged]

theorem chargedPatch_lowest {x : RecipeCheck} {e : Fin 8} (h : chargedPatch st recipe x = some e) :
    Charged st recipe x e ∧ ∀ f, f < e → ¬Charged st recipe x f := by
  obtain ⟨hpasses, before, after, hsplit, hbefore⟩ := List.find?_eq_some_iff_append.1 h
  refine ⟨charged_iff.1 hpasses, fun f hf hcharged => ?_⟩
  have hmem := mem_allEntries f
  have hsorted := allEntries_sorted
  rw [hsplit] at hmem hsorted
  rcases List.mem_append.1 hmem with hearly | hlate
  · have hskipped := hbefore f hearly
    rw [charged_iff.2 hcharged] at hskipped
    cases hskipped
  · rcases List.mem_cons.1 hlate with rfl | hlate
    · exact lt_irrefl _ hf
    · exact lt_asymm hf (List.rel_of_pairwise_cons (List.pairwise_append.1 hsorted).2.1 hlate)

theorem chargedPatch_none {x : RecipeCheck} : chargedPatch st recipe x = none ↔ ∀ e, ¬Charged st recipe x e := by
  rw [chargedPatch, List.find?_eq_none]
  simp only [mem_allEntries, true_imp_iff, charged_iff]

theorem chargedPatch_some {x : RecipeCheck} {e : Fin 8} :
    chargedPatch st recipe x = some e ↔ Charged st recipe x e ∧ ∀ f, f < e → ¬Charged st recipe x f := by
  refine ⟨chargedPatch_lowest, fun ⟨hcharged, hfirst⟩ => ?_⟩
  cases hfind : chargedPatch st recipe x with
  | none => exact absurd hcharged (chargedPatch_none.1 hfind e)
  | some f =>
    obtain ⟨hf, hlowest⟩ := chargedPatch_lowest hfind
    rcases lt_trichotomy f e with hlt | rfl | hgt
    · exact absurd hf (hfirst f hlt)
    · rfl
    · exact absurd hcharged (hlowest e hgt)

end

end Sys2Proof.Machine
end


section
/-! PROOFS. What every sequence of steps leaves of a test (R42 to R53), and START: O38. -/

namespace Sys2Proof.Machine

/-! ## What the step sequence keeps -/

/-- A record without the contents that the run-in and the leak test post. -/
def recordFrame (r : Record) : Record :=
  { r with runIn := r.runIn.map fun _ => newRunIn, leak := r.leak.map fun _ => newLeak }

/-- What every action of the step sequence keeps: the working copy, the torque limit, the discarded-block count, and every record
but for what is posted to the record ON TEST. -/
structure TestKept (s t : State) : Prop where
  copy : t.ctx.map TestContext.copy = s.ctx.map TestContext.copy
  limit : t.demand.limit = s.demand.limit
  discards : t.noise.discards = s.noise.discards
  slot : onTestSlot t = onTestSlot s
  record : ∀ i, (recordAt t i).map recordFrame = (recordAt s i).map recordFrame
  others : ∀ i, onTestSlot s ≠ some i → recordAt t i = recordAt s i

theorem TestKept.trans {s t u : State} (h : TestKept s t) (h' : TestKept t u) : TestKept s u where
  copy := h'.copy.trans h.copy
  limit := h'.limit.trans h.limit
  discards := h'.discards.trans h.discards
  slot := h'.slot.trans h.slot
  record i := (h'.record i).trans (h.record i)
  others i hi := (h'.others i (by rwa [h.slot])).trans (h.others i hi)

/-- An operation on other blocks. -/
theorem TestKept.of_queue {s t : State} (hqueue : t.queue = s.queue)
    (hcopy : t.ctx.map TestContext.copy = s.ctx.map TestContext.copy) (hlimit : t.demand.limit = s.demand.limit)
    (hdiscards : t.noise.discards = s.noise.discards) : TestKept s t :=
  ⟨hcopy, hlimit, hdiscards, onTestSlot_congr hqueue, fun i => by rw [recordAt_congr hqueue],
    fun i _ => recordAt_congr hqueue i⟩

theorem TestKept.rfl {s : State} : TestKept s s := .of_queue (.refl _) (.refl _) (.refl _) (.refl _)

theorem testKept_post {f : Record → Record} (hf : ∀ r, recordFrame (f r) = recordFrame r) (s : State) :
    TestKept s (post f s) := by
  have hstate : ∀ r, (f r).state = r.state := fun r => (congrArg Record.state (hf r) :)
  refine ⟨by simp, by simp, by simp, onTestSlot_post hstate s, fun i => ?_, fun i hi => ?_⟩
  · rw [recordAt_post]
    split
    · cases recordAt s i <;> simp [hf]
    · rfl
  · rw [recordAt_post, if_neg hi]

theorem testKept_postRunIn (f : RunInSection → RunInSection) (s : State) : TestKept s (postRunIn f s) :=
  testKept_post (fun r => by simp [recordFrame, Function.comp_def]) s

theorem testKept_postLeak (f : LeakSection → LeakSection) (s : State) : TestKept s (postLeak f s) :=
  testKept_post (fun r => by simp [recordFrame, Function.comp_def]) s

theorem testKept_withLeak (s : State) (x : LeakController) : TestKept s (s.withLeak x) :=
  .of_queue (.refl _) (.refl _) (.refl _) (.refl _)

theorem testKept_withCtx {s : State} {c c' : TestContext} (hc : s.ctx = some c) (hcopy : c'.copy = c.copy) :
    TestKept s (s.withCtx (some c')) :=
  .of_queue (.refl _) (by rw [State.withCtx_ctx, hc, Option.map_some, Option.map_some, hcopy]) (.refl _) (.refl _)

theorem testKept_withDemand {s : State} {x : Demand} (h : x.limit = s.demand.limit) : TestKept s (s.withDemand x) :=
  .of_queue (.refl _) (.refl _) h (.refl _)

theorem testKept_leakLeave (s : State) : TestKept s (leakLeave s) := .of_queue (by simp) (by simp) (by simp) (by simp)

theorem testKept_leakEnterVent (s : State) : TestKept s (leakEnterVent s) :=
  .of_queue (by simp) (by simp) (by simp) (by simp)

theorem testKept_judgeMonitors (s : State) : TestKept s (judgeMonitors s) :=
  .of_queue (by simp) (by simp) (by simp) (by simp)

theorem testKept_referenceChange (s : State) : TestKept s (referenceChange s) :=
  .of_queue (by simp) (by simp) (by simp) (by simp)

theorem testKept_abandonBlock (s : State) : TestKept s (abandonBlock s) :=
  .of_queue (by simp) (by simp) (by simp) (by simp [abandonBlock])

/-! ## The Leak Controller's part -/

theorem testKept_setLeakOutcome (o : LeakOutcome) (s : State) : TestKept s (setLeakOutcome o s) :=
  (testKept_withLeak _ _).trans (testKept_postLeak _ _)

theorem testKept_leakEnterFill (c : TestContext) (n : Nat) (s : State) : TestKept s (leakEnterFill c n s) := by
  have hrequest : ∀ t : State, TestKept t (requestUnlessPending .leak (.single .p) t) := fun t =>
    .of_queue (by simp) (by simp) (by simp) (by simp)
  exact (testKept_leakLeave s).trans ((testKept_withLeak _ _).trans ((testKept_postLeak _ _).trans (hrequest _)))

theorem testKept_leakInterrupt (w : EndReason) (s : State) : TestKept s (leakInterrupt w s) := by
  have hposted : TestKept s (postEndReason s.leak.attempts w (leakLeave s)) :=
    (testKept_leakLeave s).trans (testKept_postLeak _ _)
  unfold leakInterrupt
  dsimp only
  split
  · exact hposted.trans (testKept_withLeak _ _)
  · exact hposted.trans ((testKept_setLeakOutcome _ _).trans (testKept_leakEnterVent _))

theorem testKept_leakStepStart (c : TestContext) (first : Bool) (s : State) : TestKept s (leakStepStart c first s) := by
  unfold leakStepStart leakQuietOpening
  split
  · split
    · exact testKept_leakEnterFill c 1 s
    · exact .rfl
  · split
    · split
      · split
        · exact .rfl
        · exact testKept_withLeak _ _
      · exact testKept_leakEnterFill c 2 s
      all_goals exact .rfl
    · split
      · exact testKept_leakInterrupt _ s
      · exact .rfl

theorem testKept_leakFinish (s : State) : TestKept s (leakFinish s) := by
  have hended : TestKept s (leakEnterVent (setLeakOutcome .notDecided
      (postEndReason s.leak.attempts .finish (leakLeave s)))) :=
    ((testKept_leakLeave s).trans (testKept_postLeak _ _)).trans
      ((testKept_setLeakOutcome _ _).trans (testKept_leakEnterVent _))
  unfold leakFinish
  split
  · exact hended
  · exact hended
  · exact hended
  · exact hended
  all_goals exact .rfl

/-! ## The actions of the sequence -/

theorem testKept_reversalCheck (s : State) : TestKept s (reversalCheck s) := by
  unfold reversalCheck
  split
  case h_1 c hc =>
    split
    · split
      · exact testKept_withCtx hc rfl
      · exact .rfl
    · split
      · exact .rfl
      · exact testKept_withCtx hc rfl
    all_goals exact .rfl
  case h_2 => exact .rfl

theorem testKept_enterReverse {s : State} {c : TestContext} (hc : s.ctx = some c) : TestKept s (enterReverse c s) := by
  unfold enterReverse
  dsimp only
  have hlimit : (if (s.demand.speed != 0) = true then startRamp 0 (rampTime c.copy c.step) s.demand else s.demand).limit =
      s.demand.limit := by split <;> simp
  generalize (if (s.demand.speed != 0) = true then startRamp 0 (rampTime c.copy c.step) s.demand else s.demand) = d
    at hlimit
  have hramped : TestKept s (s.withDemand { d with wheel := 0 }) := testKept_withDemand hlimit
  refine .trans ?_ (testKept_referenceChange _)
  split
  · exact hramped.trans (testKept_withCtx (c := c) hc rfl)
  · have hwaiting : TestKept s ((s.withDemand { d with wheel := 0 }).withCtx (some (waiting c))) :=
      hramped.trans (testKept_withCtx (c := c) hc rfl)
    exact hwaiting.trans (testKept_reversalCheck _)

theorem testKept_stepReported {s : State} {c : TestContext} (hc : s.ctx = some c) (k : Nat) :
    TestKept s (stepReported k c s) := by
  have hstarted : TestKept s (s.withCtx (some (stepContext k c))) := testKept_withCtx hc rfl
  have hmonitors : ∀ t : State, TestKept t (monitorsStepStart t) := fun t =>
    .of_queue (by simp) (by simp) (by simp) (by simp)
  exact (hstarted.trans (testKept_postRunIn _ _)).trans ((testKept_abandonBlock _).trans
    ((testKept_leakStepStart _ _ _).trans (hmonitors _)))

theorem testKept_startStep {s : State} {c : TestContext} (hc : s.ctx = some c) (k : Nat) :
    TestKept s (startStep k c s).1 := by
  have hreported := testKept_stepReported hc k
  rw [startStep_eq]
  split
  · exact hreported
  · split
    · exact hreported.trans (testKept_withDemand (by simp))
    · exact hreported.trans (testKept_enterReverse (stepReported_ctx k c s))

theorem testKept_enterHold {s : State} {c : TestContext} (hc : s.ctx = some c) : TestKept s (enterHold c s).1 := by
  have hheld : ∀ x : StepTimer, TestKept s (judgeMonitors (s.withCtx (some { c with phase := .hold, stepTimer := x }))) :=
    fun x => (testKept_withCtx (c' := { c with phase := .hold, stepTimer := x }) hc rfl).trans (testKept_judgeMonitors _)
  unfold enterHold
  split <;> exact hheld _

theorem testKept_enterFinish {s : State} {c c' : TestContext} (hc : s.ctx = some c) (hcopy : c'.copy = c.copy) :
    TestKept s (enterFinish c' s) := by
  have hctx : TestKept s (s.withCtx (some { c' with phase := .finish .rampDown })) := testKept_withCtx hc hcopy
  exact hctx.trans ((testKept_withDemand (by simp)).trans ((testKept_abandonBlock _).trans
    ((testKept_leakFinish _).trans (testKept_referenceChange _))))

theorem testKept_completeStep {s : State} {c : TestContext} (hc : s.ctx = some c) : TestKept s (completeStep c s).1 := by
  have hposted := testKept_postRunIn (fun r => { r with stepsCompleted := min 255 (r.stepsCompleted + 1) }) s
  have hctx : (postRunIn (fun r => { r with stepsCompleted := min 255 (r.stepsCompleted + 1) }) s).ctx = some c := by
    simp [hc]
  unfold completeStep
  dsimp only
  split
  · exact hposted.trans (testKept_withCtx hctx rfl)
  · split
    · exact hposted.trans (testKept_withCtx hctx rfl)
    · exact hposted.trans (testKept_enterFinish hctx rfl)

theorem testKept_enterRamp {s : State} {c : TestContext} (hc : s.ctx = some c) : TestKept s (enterRamp c s).1 := by
  have hctx : TestKept s (s.withCtx (some { c with phase := .ramp })) := testKept_withCtx hc rfl
  exact hctx.trans ((testKept_withDemand (by simp)).trans (testKept_referenceChange _))

theorem testKept_seqAct (a : SeqAction) (s : State) : TestKept s (seqAct a s).1 := by
  unfold seqAct
  split
  case h_1 => exact .rfl
  case h_2 c hc =>
    cases a with
    | startStep k => exact testKept_startStep hc k
    | enterRamp => exact testKept_enterRamp hc
    | enterHold => exact testKept_enterHold hc
    | complete => exact testKept_completeStep hc

theorem testKept_runSequence (fuel : Nat) (a : SeqAction) (s : State) : TestKept s (runSequence fuel a s) := by
  induction fuel generalizing a s with
  | zero => exact .rfl
  | succ fuel ih =>
    have hact := testKept_seqAct a s
    cases hnext : seqAct a s with
    | mk t next =>
      rw [hnext] at hact
      cases next with
      | none => simpa only [runSequence, hnext] using hact
      | some b => simpa only [runSequence, hnext] using hact.trans (ih b t)

theorem testKept_sequence (a : SeqAction) (s : State) : TestKept s (sequence a s) := testKept_runSequence _ a s

/-! ## START (R148) -/

theorem startTest_eq (i : Fin 16) (copy : Items) (s : State) :
    startTest i copy s = supplyJudge (sequence (.startStep 0) (started i copy s)) := rfl

/-- The only record with a state of ON TEST is the record ON TEST. -/
theorem onTestSlot_of_only {s : State} {i : Fin 16} (hi : OnTest s i) (honly : ∀ j, OnTest s j → j = i) :
    onTestSlot s = some i := by
  cases hslot : onTestSlot s with
  | none => exact absurd hi (fun ⟨r, hr, hstate⟩ => onTestSlot_none.1 hslot i r hr hstate)
  | some j => rw [honly j (onTest_of_onTestSlot hslot)]

theorem started_queue (i : Fin 16) (copy : Items) (s : State) :
    (started i copy s).queue = (modifyRecord i (startRecord copy) s).queue := by simp [started]

theorem recordAt_started (i j : Fin 16) (copy : Items) (s : State) :
    recordAt (started i copy s) j = if j = i then (recordAt s j).map (startRecord copy) else recordAt s j := by
  rw [recordAt_congr (started_queue i copy s), recordAt_modifyRecord]

theorem onTestSlot_started {s : State} {i : Fin 16} {r : Record} (hnone : ∀ j, ¬OnTest s j) (hr : recordAt s i = some r)
    (copy : Items) : onTestSlot (started i copy s) = some i := by
  have honTest : ∀ j, OnTest (started i copy s) j ↔ j = i := fun j => by
    rw [onTest_congr (started_queue i copy s), onTest_modifyRecord]
    split
    case isTrue hj => subst hj; simp [hr, startRecord]
    case isFalse hj => simp [hj, hnone]
  exact onTestSlot_of_only ((honTest i).2 rfl) fun j hj => (honTest j).1 hj

/-- What START sets up before step 0 starts. -/
theorem started_spec (i : Fin 16) (copy : Items) (s : State) :
    (started i copy s).mode = { s.mode with mode := .run, pauseKind := .none, settleTimer := .stopped } ∧
    (started i copy s).ctx = some (newContext copy) ∧ (started i copy s).demand.limit = inputTorqueLimit copy ∧
    (started i copy s).noise.discards = 0 ∧ (started i copy s).store = s.store ∧ (started i copy s).link = s.link ∧
    (started i copy s).ports = s.ports ∧ (started i copy s).pending = s.pending := by
  refine ⟨?_, by simp [started], by simp [started], ?_, by simp [started], by simp [started], by simp [started],
    by simp [started]⟩
  · simp [started, setMode_controller]
  · simp only [started, judgeMonitors_frame, setMode_noise]
    split <;> rfl

/-- Settles O38: the patched copy by its entries, and what the set-up puts ON TEST, which the sequence of steps keeps. -/
theorem startRuns : Obligations.StartRuns := by
  refine ⟨fun st recipe r => ?_, fun s i r x hopen hmode hnone holdest hr hvalid hx hgood hcopy hsupply => ?_⟩
  · simp only [← patchApplies_iff]
    exact ⟨fun k => item_patchedCopy_untouched, fun k e => item_patchedCopy_last,
      fun x => ⟨fun e => chargedPatch_some, chargedPatch_none⟩⟩
  · obtain ⟨-, hstart⟩ := startRecipe_of_valid (i := i) hx hgood
    have hdecide : startDecide s = (recordReply i r, startTest i (patchedCopy s.store r.recipe x.items) s) := by
      rw [startDecide_of_ready hmode holdest hr, if_neg (by simp [hvalid]), hstart hcopy]
    generalize patchedCopy s.store r.recipe x.items = copy at hdecide ⊢
    obtain ⟨hmodeRun, hctx, hlimit, hdiscards, hstore, hlink, hports, hpending⟩ := started_spec i copy s
    have hslot := onTestSlot_started hnone hr copy
    have hrecords := fun j => recordAt_started i j copy s
    have hkept := testKept_sequence (.startStep 0) (started i copy s)
    rw [startTest_eq] at hdecide
    generalize started i copy s = u at *
    have hjudged : supplyJudge (sequence (.startStep 0) u) = sequence (.startStep 0) u :=
      supplyJudge_good ((supplyBad_congr (by simp [hlink])).trans hsupply)
    rw [hjudged] at hdecide
    have hframe := sequence_frame (.startStep 0) u
    generalize sequence (.startStep 0) u = t at *
    obtain ⟨htmode, htstore, htlink, -, htports, -, -, -, htpending⟩ := hframe
    obtain ⟨c, hc, hccopy⟩ : ∃ c, t.ctx = some c ∧ c.copy = copy := by
      have hmap := hkept.copy
      rw [hctx] at hmap
      obtain ⟨c, hc, hcc⟩ := Option.map_eq_some_iff.1 hmap
      exact ⟨c, hc, hcc⟩
    obtain ⟨r', hr', hshape⟩ : ∃ r', recordAt t i = some r' ∧ recordFrame r' = recordFrame (startRecord copy r) := by
      have hmap := hkept.record i
      rw [hrecords, if_pos rfl, hr] at hmap
      exact Option.map_eq_some_iff.1 hmap
    have hother : ∀ j, j ≠ i → recordAt t j = recordAt s j := fun j hj => by
      rw [hkept.others j (by rw [hslot]; exact fun h => hj (Option.some.inj h).symm), hrecords, if_neg hj]
    simp only [recordFrame, startRecord, Record.mk.injEq] at hshape
    obtain ⟨hserial, -, -, hseq, hstate, -, -, hrunIn, hnoise, hleak, hzero, hfaults, -⟩ := hshape
    refine ⟨reply .line (recordReply i r) t, c, r', by rw [exec_start hopen, hdecide], ?_⟩
    simp only [reply_frame, recordAt_reply, htmode, hmodeRun, hccopy, hkept.limit, hlimit, hkept.discards, hdiscards]
    refine ⟨trivial, trivial, hc, trivial, trivial, hr', hstate, ?_, ?_, ?_, hzero, hserial, hseq, hfaults, trivial, hother,
      htstore.trans hstore, htlink.trans hlink, ?_, htpending.trans hpending⟩
    · simpa using congrArg Option.isSome hrunIn
    · rw [hnoise]
      cases noiseEnabled copy <;> rfl
    · have hsome := congrArg Option.isSome hleak
      rw [Option.isSome_map, Option.isSome_map] at hsome
      rw [hsome]
      cases leakEnabled copy <;> rfl
    · simp [reply, htports, hports, recordReply]

end Sys2Proof.Machine
end


section
/-! PROOFS. Which recipes pass the validation, and its command (R25 to R29): O44. -/

namespace Sys2Proof.Machine

/-! ## Single checks (R25) -/

theorem firstFailure_none {r : Items} : firstFailure r = none ↔ ∀ c ∈ allChecks r, c.passes = true := by
  simp [firstFailure]

/-- The list of checks passes. -/
def AllPass (l : List RecipeCheck) : Prop := ∀ c ∈ l, c.passes = true

@[simp] theorem allPass_nil : AllPass [] := fun _ h => absurd h List.not_mem_nil

@[simp] theorem allPass_cons {c : RecipeCheck} {l : List RecipeCheck} :
    AllPass (c :: l) ↔ c.passes = true ∧ AllPass l := List.forall_mem_cons

@[simp] theorem allPass_append {l l' : List RecipeCheck} : AllPass (l ++ l') ↔ AllPass l ∧ AllPass l' :=
  List.forall_mem_append

theorem allPass_map {α : Type} {f : α → RecipeCheck} {l : List α} : AllPass (l.map f) ↔ ∀ x ∈ l, (f x).passes = true :=
  List.forall_mem_map

theorem allPass_flatMap {α : Type} {f : α → List RecipeCheck} {l : List α} :
    AllPass (l.flatMap f) ↔ ∀ x ∈ l, AllPass (f x) := List.forall_mem_flatMap

/-- A range check of an item by its place. -/
theorem rangeCheck_passes {r : Items} {t : ItemRef} {o lo hi : Nat} (h : itemOffset t = some o) :
    (rangeCheck r t lo hi).passes = true ↔ lo ≤ item r o ∧ item r o ≤ hi := by
  simp [rangeCheck, itemOf, h]

theorem generalOffset {f : Nat} (hf : f < 4) : itemOffset ⟨0, 0, f⟩ = some f := by simp [itemOffset, hf]

theorem stepOffset {k f : Nat} (hk : k < 24) (hf : f < 12) : itemOffset ⟨1, k, f⟩ = some (4 + 12 * k + f) := by
  simp [itemOffset, hk, hf]

theorem orderOffset {j : Nat} (hj : j < 4) : itemOffset ⟨2, j, 1⟩ = some (293 + j) := by simp [itemOffset, hj]

theorem limitOffset {i : Nat} (hi : i < 128) : itemOffset ⟨2, i, 5⟩ = some (300 + i) := by simp [itemOffset, hi]

theorem leakOffset {f : Nat} (hf : f < 8) : itemOffset ⟨3, 0, f⟩ = some (428 + f) := by simp [itemOffset, hf]

/-! ## GENERAL (R26) -/

/-- The GENERAL section is good. -/
def GeneralGood (r : Items) : Prop :=
  1 ≤ stepCount r ∧ stepCount r ≤ 24 ∧ 100 ≤ inputTorqueLimit r ∧ inputTorqueLimit r ≤ 10000 ∧
    2330 ≤ oilPrewarn r ∧ oilPrewarn r ≤ 4230 ∧ 2330 ≤ oilShutdown r ∧ oilShutdown r ≤ 4230 ∧ oilPrewarn r < oilShutdown r

theorem generalChecks_pass {r : Items} : AllPass (generalChecks r) ↔ GeneralGood r := by
  simp only [generalChecks, allPass_cons, allPass_nil, rangeCheck_passes (generalOffset (f := 0) (by decide)),
    rangeCheck_passes (generalOffset (f := 1) (by decide)), rangeCheck_passes (generalOffset (f := 2) (by decide)),
    rangeCheck_passes (generalOffset (f := 3) (by decide)), decide_eq_true_eq, and_true, and_assoc]
  rfl

/-! ## The steps (R27) -/

/-- A step is good. -/
def StepGood (r : Items) (k : Nat) : Prop :=
  stepField r k 0 ≤ 1 ∧ stepField r k 1 ≤ 1 ∧ inputSpeed r k ≤ 4000 ∧ wheelTorque r k ≤ 30000 ∧ 5 ≤ torqueBand r k ∧
    torqueBand r k ≤ 50 ∧ rampTime r k ≤ 60000 ∧ holdTime r k ≤ 6000 ∧ stepField r k 7 ≤ 1 ∧ stepField r k 8 ≤ 1 ∧
    stepField r k 9 ≤ 1 ∧
    (loopTarget r k ≠ 255 → loopTarget r k ≤ k ∧ 1 ≤ loopCount r k ∧ loopCount r k ≤ 15 ∧
      ∀ j, j < k → loopTarget r j ≠ 255 → j < loopTarget r k)

theorem loopChecks_pass {r : Items} {k : Nat} :
    AllPass (loopChecks r k) ↔ ∀ j, j < k → loopTarget r j ≠ 255 → j < loopTarget r k := by
  simp [loopChecks, allPass_map, loopNone, and_imp]

theorem stepCheck_passes {r : Items} {k f lo hi : Nat} (hk : k < 24) (hf : f < 12) :
    (rangeCheck r ⟨1, k, f⟩ lo hi).passes = true ↔ lo ≤ stepField r k f ∧ stepField r k f ≤ hi :=
  rangeCheck_passes (stepOffset hk hf)

theorem stepChecks_pass {r : Items} {k : Nat} (hk : k < 24) : AllPass (stepChecks r k) ↔ StepGood r k := by
  have hloop : AllPass (if loopTarget r k = loopNone then [] else loopChecks r k ++ [rangeCheck r ⟨1, k, 11⟩ 1 15]) ↔
      (loopTarget r k ≠ 255 → (∀ j, j < k → loopTarget r j ≠ 255 → j < loopTarget r k) ∧
        1 ≤ loopCount r k ∧ loopCount r k ≤ 15) := by
    by_cases hnone : loopTarget r k = 255
    · simp [hnone, loopNone]
    · rw [if_neg (by exact hnone), allPass_append, loopChecks_pass, allPass_cons, stepCheck_passes hk (by decide)]
      simp [hnone, loopCount]
  have htarget : ((loopTarget r k = loopNone ∨ loopTarget r k ≤ k) ∧ (loopTarget r k ≠ 255 →
      (∀ j, j < k → loopTarget r j ≠ 255 → j < loopTarget r k) ∧ 1 ≤ loopCount r k ∧ loopCount r k ≤ 15)) ↔
      (loopTarget r k ≠ 255 → loopTarget r k ≤ k ∧ 1 ≤ loopCount r k ∧ loopCount r k ≤ 15 ∧
        ∀ j, j < k → loopTarget r j ≠ 255 → j < loopTarget r k) := by
    by_cases hnone : loopTarget r k = 255
    · simp [hnone, loopNone]
    · simp only [loopNone, hnone, false_or, ne_eq, not_false_eq_true, true_imp_iff]
      exact and_congr_right fun _ => and_comm.trans and_assoc
  rw [stepChecks, allPass_append, hloop]
  simp only [allPass_cons, allPass_nil, stepCheck_passes hk (show 0 < 12 by decide),
    stepCheck_passes hk (show 1 < 12 by decide), stepCheck_passes hk (show 2 < 12 by decide),
    stepCheck_passes hk (show 3 < 12 by decide), stepCheck_passes hk (show 4 < 12 by decide),
    stepCheck_passes hk (show 5 < 12 by decide), stepCheck_passes hk (show 6 < 12 by decide),
    stepCheck_passes hk (show 7 < 12 by decide), stepCheck_passes hk (show 8 < 12 by decide),
    stepCheck_passes hk (show 9 < 12 by decide), Bool.or_eq_true, beq_iff_eq, decide_eq_true_eq, Nat.zero_le, true_and,
    and_true, and_assoc]
  rw [htarget]
  rfl

/-! ## NOISE (R28) -/

/-- The enabled NOISE section is good. -/
def NoiseGood (r : Items) : Prop :=
  (∀ j, j < 4 → order r j ≤ 255) ∧ 1 ≤ blockRevs r ∧ blockRevs r ≤ 16 ∧ lowBinSpeed r ≤ 4000 ∧ 10 ≤ binWidth r ∧
    binWidth r ≤ 500 ∧ lowBinSpeed r + 16 * binWidth r ≤ 6000 ∧ (∀ i, i < 128 → limitAt r i ≤ 32767) ∧
    (∃ j, j < 4 ∧ order r j ≠ 0) ∧ (∃ i, i < 128 ∧ order r (i / 32) ≠ 0 ∧ limitAt r i ≠ 0) ∧
    ∃ k, k < stepCount r ∧ stepField r k 8 = 1

theorem usedLimit_iff {r : Items} : usedLimit r = true ↔ ∃ i, i < 128 ∧ order r (i / 32) ≠ 0 ∧ limitAt r i ≠ 0 := by
  simp [usedLimit]

theorem noiseChecks_pass {r : Items} (hcount : stepCount r ≤ 24) :
    AllPass (noiseChecks r) ↔ item r 292 = 0 ∨ (item r 292 = 1 ∧ NoiseGood r) := by
  have henable : (rangeCheck r ⟨2, 0, 0⟩ 0 1).passes = true ↔ item r 292 ≤ 1 := by
    rw [rangeCheck_passes (o := 292) rfl]
    simp
  have horders : (∀ j < 4, (rangeCheck r ⟨2, j, 1⟩ 0 255).passes = true) ↔ ∀ j, j < 4 → order r j ≤ 255 :=
    forall₂_congr fun j hj => by rw [rangeCheck_passes (orderOffset hj)]; simp [order]
  have hlimits : (∀ i < 128, (rangeCheck r ⟨2, i, 5⟩ 0 32767).passes = true) ↔ ∀ i, i < 128 → limitAt r i ≤ 32767 :=
    forall₂_congr fun i hi => by rw [rangeCheck_passes (limitOffset hi)]; simp [limitAt]
  have hrevs : (rangeCheck r ⟨2, 0, 2⟩ 1 16).passes = true ↔ 1 ≤ blockRevs r ∧ blockRevs r ≤ 16 := rangeCheck_passes rfl
  have hlow : (rangeCheck r ⟨2, 0, 3⟩ 0 4000).passes = true ↔ 0 ≤ lowBinSpeed r ∧ lowBinSpeed r ≤ 4000 :=
    rangeCheck_passes rfl
  have hwidth : (rangeCheck r ⟨2, 0, 4⟩ 10 500).passes = true ↔ 10 ≤ binWidth r ∧ binWidth r ≤ 500 := rangeCheck_passes rfl
  rw [noiseChecks, allPass_cons, henable]
  by_cases hon : item r 292 = 1
  · have henabled : noiseEnabled r = true := by simp [noiseEnabled, hon]
    simp only [henabled, if_true, allPass_append, List.map_map, allPass_map, Function.comp_apply, List.mem_range, horders,
      hlimits, allPass_cons, allPass_nil, hrevs, hlow, hwidth, usedLimit_iff, decide_eq_true_eq, List.any_eq_true,
      noiseWindow, bne_iff_ne, beq_iff_eq, NoiseGood, hon, min_eq_right hcount]
    simp [and_assoc]
  · have hdisabled : noiseEnabled r = false := by simp [noiseEnabled, hon]
    simp only [hdisabled, hon, Bool.false_eq_true, if_false, allPass_nil, and_true, false_and, or_false]
    omega

/-! ## LEAK (R29) -/

/-- The enabled LEAK section is good. -/
def LeakGood (r : Items) : Prop :=
  triggerStep r < stepCount r ∧ 11000 ≤ fillTarget r ∧ fillTarget r ≤ 40000 ∧ 10 ≤ fillTimeout r ∧ fillTimeout r ≤ 600 ∧
    1 ≤ leakSettleTime r ∧ leakSettleTime r ≤ 600 ∧ 1000 ≤ measureTime r ∧ measureTime r ≤ 60000 ∧
    1 ≤ burstLength r ∧ burstLength r ≤ 16 ∧ 1 ≤ rateLimit r ∧ rateLimit r ≤ 65535 ∧
    ∃ k, triggerStep r ≤ k ∧ k < stepCount r ∧ stepField r k 9 = 1

theorem leakCheck_passes {r : Items} {f lo hi : Nat} (hf : f < 8) :
    (rangeCheck r ⟨3, 0, f⟩ lo hi).passes = true ↔ lo ≤ item r (428 + f) ∧ item r (428 + f) ≤ hi :=
  rangeCheck_passes (leakOffset hf)

theorem leakChecks_pass {r : Items} (hcount : stepCount r ≤ 24) :
    AllPass (leakChecks r) ↔ item r 428 = 0 ∨ (item r 428 = 1 ∧ LeakGood r) := by
  rw [leakChecks, allPass_cons, leakCheck_passes (by decide)]
  by_cases hon : item r 428 = 1
  · have henabled : leakEnabled r = true := by simp [leakEnabled, hon]
    have hquiet : ((List.range (min 24 (stepCount r))).any fun k => decide (triggerStep r ≤ k) && leakQuiet r k) = true ↔
        ∃ k, triggerStep r ≤ k ∧ k < stepCount r ∧ stepField r k 9 = 1 := by
      simp only [min_eq_right hcount, List.any_eq_true, List.mem_range, Bool.and_eq_true, decide_eq_true_eq, leakQuiet,
        beq_iff_eq]
      exact exists_congr fun k => and_left_comm
    simp only [henabled, if_true, allPass_cons, allPass_nil, leakCheck_passes (show 2 < 8 by decide),
      leakCheck_passes (show 3 < 8 by decide), leakCheck_passes (show 4 < 8 by decide),
      leakCheck_passes (show 5 < 8 by decide), leakCheck_passes (show 6 < 8 by decide),
      leakCheck_passes (show 7 < 8 by decide), hquiet, decide_eq_true_eq, LeakGood, hon]
    simp [and_assoc, fillTarget, fillTimeout, leakSettleTime, measureTime, burstLength, rateLimit]
  · have hdisabled : leakEnabled r = false := by simp [leakEnabled, hon]
    simp only [hdisabled, hon, Bool.false_eq_true, if_false, allPass_nil, and_true, false_and, or_false,
      Nat.add_zero]
    omega

/-- A recipe passes exactly when its sections are good (R26 to R29). -/
theorem firstFailure_iff {r : Items} :
    firstFailure r = none ↔ GeneralGood r ∧ (∀ k, k < stepCount r → StepGood r k) ∧
      (item r 292 = 0 ∨ (item r 292 = 1 ∧ NoiseGood r)) ∧ (item r 428 = 0 ∨ (item r 428 = 1 ∧ LeakGood r)) := by
  have hall : firstFailure r = none ↔ AllPass (allChecks r) := firstFailure_none
  rw [hall, allChecks, allPass_append, allPass_append, allPass_append, generalChecks_pass, allPass_flatMap, and_assoc,
    and_assoc]
  refine and_congr_right fun ⟨_, hcount, _⟩ => ?_
  rw [noiseChecks_pass hcount, leakChecks_pass hcount]
  refine and_congr_left fun _ => ?_
  simp only [List.mem_range, min_eq_right hcount]
  exact forall₂_congr fun k hk => stepChecks_pass (lt_of_lt_of_le hk hcount)

/-! ## RECIPE VALIDATE (R25) -/

theorem exec_recipeValidate {s : State} (hopen : PortOpen .cell s) (recipe : Byte) :
    exec (.recipeValidate .cell recipe) s =
      .next (reply .cell (recipeValidateDecide recipe s).1 (recipeValidateDecide recipe s).2) :=
  congrArg Host.Outcome.next (portRequest_of_open hopen rfl _)

/-- The state after a validation of a slot with an outcome. -/
def validated (n : Fin 12) (failure : Option ItemRef) (s : State) : State :=
  raise (.recipe n.val failure) (setRecipe n.val ⟨s.store.recipes[n].items, failure.isNone⟩ s)

theorem recipeValidateDecide_slot {recipe : Byte} {n : Fin 12} (hn : n.val = recipe.toNat) (s : State) :
    (firstFailure (s.store.recipes[n]).items = none → recipeValidateDecide recipe s = (plain .ok, validated n none s)) ∧
    ∀ f, firstFailure (s.store.recipes[n]).items = some f →
      recipeValidateDecide recipe s = (⟨.recipe, itemBytes f.reported⟩, validated n (some f.reported) s) := by
  have hslot : recipeAt s.store recipe.toNat = some s.store.recipes[n] := by
    rw [recipeAt, ← hn]
    simp
  refine ⟨fun hgood => ?_, fun f hf => ?_⟩
  · rw [recipeValidateDecide, hslot]
    simp only [hgood, ← hn]
    rfl
  · rw [recipeValidateDecide, hslot]
    simp only [hf, ← hn]
    rfl

/-- What an answered validation of a slot leaves: its validity by the outcome, its mark, and its reply. -/
def ValidityJudged (n : Fin 12) (failure : Option ItemRef) (b : Reply) (s t : State) : Prop :=
  t = ((s.withStore t.store).withEvents t.events).withPorts t.ports ∧
  (t.store.recipes[n]).items = (s.store.recipes[n]).items ∧
  (∀ m : Fin 12, m ≠ n → t.store.recipes[m] = s.store.recipes[m]) ∧ t.store.patches = s.store.patches ∧
  (t.store.recipes[n]).valid = failure.isNone ∧ (t.ports.get .cell).held = b ∧
  ∀ q, (routeOf s 10).has q = true → mark t 10 q = some (.recipe n.val failure)

theorem validityJudged_reply (n : Fin 12) (x : Option ItemRef) (b : Reply) (s : State) :
    ValidityJudged n x b s (reply .cell b (validated n x s)) := by
  have hrecipes : ∀ m : Fin 12, (reply .cell b (validated n x s)).store.recipes[m] =
      if m = n then ⟨s.store.recipes[n].items, x.isNone⟩ else s.store.recipes[m] := fun m => setRecipe_recipes n m _ s
  refine ⟨rfl, ?_, fun m hm => ?_, rfl, ?_, by rw [reply_held], fun q hq => ?_⟩
  · rw [hrecipes, if_pos rfl]
  · rw [hrecipes, if_neg hm]
  · rw [hrecipes, if_pos rfl]
  · rw [mark_reply]
    exact mark_of_raise (e := .recipe n.val x) (.of_events rfl) hq

/-- Settles O44: the checks of the four sections, and the two outcomes. -/
theorem validationJudges : Obligations.ValidationJudges := by
  refine ⟨fun recipe s hopen hrange => ?_, fun recipe s n hopen hn => ?_, fun r => firstFailure_iff⟩
  · have hnone : recipeAt s.store recipe.toNat = none := Vector.getElem?_eq_none hrange
    rw [exec_recipeValidate hopen, recipeValidateDecide, hnone]
    rfl
  · obtain ⟨hpasses, hfails⟩ := recipeValidateDecide_slot hn s
    cases hcheck : firstFailure (s.store.recipes[n]).items with
    | none =>
      obtain ⟨hframe, hitems, hothers, hpatches, hvalid, hheld, hmarked⟩ := validityJudged_reply n none (plain .ok) s
      refine ⟨_, by rw [exec_recipeValidate hopen, hpasses hcheck], hframe, hitems, hothers, hpatches,
        fun _ => ⟨hvalid, hheld, hmarked⟩, fun f hf => ?_⟩
      cases hf
    | some f =>
      obtain ⟨hframe, hitems, hothers, hpatches, hvalid, hheld, hmarked⟩ :=
        validityJudged_reply n (some f.reported) ⟨.recipe, itemBytes f.reported⟩ s
      refine ⟨_, by rw [exec_recipeValidate hopen, hfails f hcheck], hframe, hitems, hothers, hpatches,
        fun hnone => ?_, fun f' hf => ?_⟩
      · cases hnone
      · cases hf
        exact ⟨hvalid, hheld, hmarked⟩

end Sys2Proof.Machine
end


section
/-! PROOFS. The stages of REVERSE and FINISH, and the report of a ramp's end (R41, R43, R45, R52, R53): O14. -/

namespace Sys2Proof.Machine

/-! ## REVERSE (R43) -/

theorem reversalWait_withCtx (c : TestContext) (s : State) :
    reversalWait c s = s.withCtx (some
      (if atRest s then { c with phase := .reverse .dwell, dwell := .running 300, standstill := .held 5000 }
      else { c with phase := .reverse .standstillWait, standstill := .running 5000 })) := by
  have hrest : atRest (s.withCtx (some (Machine.waiting c))) = atRest s := atRest_of_link rfl
  rw [reversalWait_eq]
  simp only [reversalCheck, State.withCtx_ctx, Machine.waiting]
  cases hatRest : atRest s <;> simp only [Machine.waiting] at hrest <;> simp only [hrest, hatRest] <;> rfl

/-! ## FINISH (R52, R53) -/

/-- A stage of FINISH after its standstill, with its request held or not. -/
def finishStage (c : TestContext) (x : FinishStage) (hold : Bool) (s : State) : State :=
  toFinishStage { c with standstill := .stopped } x hold s

theorem checkDue_iff {s : State} {i : Fin 16} {x : Record} (hslot : onTestSlot s = some i) (hx : recordAt s i = some x) :
    checkDue s = true ↔
      x.leak.isSome = true ∧ (s.zero.interval ≤ s.zero.unchecked + 1 ∨ s.zero.forced = true) := by
  have hrecord : onTestRecord s = some x := by rw [onTestRecord, hslot]; exact hx
  rw [checkDue, hrecord]
  simp

theorem checkDue_congr {s t : State} (hqueue : t.queue = s.queue) (hzero : t.zero = s.zero) : checkDue t = checkDue s := by
  have hrecord : onTestRecord t = onTestRecord s := by
    rw [onTestRecord, onTestRecord, onTestSlot_congr hqueue, funext (recordAt_congr hqueue)]
  rw [checkDue, checkDue, hrecord, hzero]

/-- Outside RUN the request of ZERO WAIT is held. -/
theorem enterZeroWait_held {s : State} (h : s.mode.mode ≠ .run) (c : TestContext) :
    enterZeroWait c s = toFinishStage c .zeroWait true s := if_neg h

/-- A due check starts in ZERO WAIT. -/
theorem enterZeroWait_due {s : State} (h : s.mode.mode = .run) (hdue : checkDue s = true) (c : TestContext) :
    enterZeroWait c s = startCheck .endOfTest (toFinishStage c .zeroWait false s) := by
  have hdue' : checkDue (toFinishStage c .zeroWait false s) = true := (checkDue_congr rfl rfl).trans hdue
  rw [enterZeroWait, if_pos h, zeroAsk, if_pos hdue']
  rfl

/-- With no check due the record is decided at once. -/
theorem enterZeroWait_decides {s : State} (h : s.mode.mode = .run) (hdue : ¬checkDue s = true) (c : TestContext) :
    enterZeroWait c s = normalDecision (toFinishStage c .decisionDue false s) := by
  have hsame : checkDue (toFinishStage c .zeroWait false s) = checkDue s := checkDue_congr rfl rfl
  have hdue' : ¬checkDue (toFinishStage c .zeroWait false s) = true := by rwa [hsame]
  have hrun : (toFinishStage c .zeroWait false s).mode.mode = .run := h
  rw [enterZeroWait, if_pos h, zeroAsk, if_neg hdue', decisionDue, if_pos hrun]
  rfl

/-- VENT WAIT is passed where no leak test holds the circuit. -/
theorem finishWait_passes {s : State} {c : TestContext} (hrest : atRest s = true)
    (h : leakEnabled c.copy = false ∨ s.leak.phase = .done) :
    finishWait c s = enterZeroWait { c with phase := .finish .standstillWait, standstill := .stopped }
      (s.withCtx (some { c with phase := .finish .standstillWait, standstill := .running 5000 })) := by
  have hrest' : atRest (s.withCtx (some { c with phase := .finish .standstillWait, standstill := .running 5000 })) = true :=
    (atRest_of_link rfl).trans hrest
  rw [finishWait]
  simp only [finishCheck, State.withCtx_ctx, Config.standstillMs, hrest', and_self, if_true]
  rcases h with hleak | hdone
  · rw [if_neg (by simp [hleak])]
  · rw [enterVentWait, State.withCtx_leak, if_pos hdone, ite_self]

theorem finishWait_vents {s : State} {c : TestContext} (hrest : atRest s = true)
    (h : ¬(leakEnabled c.copy = false ∨ s.leak.phase = .done)) :
    finishWait c s = finishStage c .ventWait false s := by
  have hrest' : atRest (s.withCtx (some { c with phase := .finish .standstillWait, standstill := .running 5000 })) = true :=
    (atRest_of_link rfl).trans hrest
  obtain ⟨hleak, hdone⟩ := not_or.1 h
  rw [finishWait]
  simp only [finishCheck, State.withCtx_ctx, Config.standstillMs, hrest', and_self, if_true]
  rw [if_pos (by simpa using hleak), enterVentWait, State.withCtx_leak, if_neg hdone]
  rfl

theorem finishWait_waits {s : State} (c : TestContext) (hrest : atRest s = false) :
    finishWait c s = s.withCtx (some { c with phase := .finish .standstillWait, standstill := .running 5000 }) := by
  have hrest' : atRest (s.withCtx (some { c with phase := .finish .standstillWait, standstill := .running 5000 })) = false :=
    (atRest_of_link rfl).trans hrest
  rw [finishWait]
  simp only [finishCheck, State.withCtx_ctx, Config.standstillMs, hrest', Bool.false_eq_true, and_false, if_false]

/-! ## The normal decision (R17, R152) -/

/-- The decision reads the working copy alone of the test context. -/
theorem decided_of_copy {c c' : TestContext} (h : c'.copy = c.copy) : decided (some c') = decided (some c) := by
  have hnoise : fixNoise (some c') = fixNoise (some c) := funext fun n => by simp only [fixNoise, h]
  funext r
  simp only [decided, hnoise]

theorem normalDecision_spec {s : State} {i : Fin 16} {x : Record} (hslot : onTestSlot s = some i)
    (hx : recordAt s i = some x) :
    (normalDecision s).mode.mode = .ready ∧ (normalDecision s).mode.target = s.mode.target ∧ (normalDecision s).ctx = none ∧
    recordAt (normalDecision s) i = some (decided s.ctx x) ∧
    (∀ j, j ≠ i → recordAt (normalDecision s) j = recordAt s j) ∧
    (normalDecision s).zero.unchecked =
      (if x.zero = some .unchecked then min 255 (s.zero.unchecked + 1) else s.zero.unchecked) ∧
    (normalDecision s).leak = s.leak ∧ SettingsKept s (normalDecision s) := by
  have hqueue : (normalDecision s).queue = (endTest s).queue := by simp [normalDecision]
  refine ⟨normalDecision_mode s, by simp [normalDecision, setMode_controller], normalDecision_ctx s, ?_, fun j hj => ?_, ?_,
    by simp [normalDecision], (kept_endTest s).trans ((kept_setMode _ _).trans (kept_judgeMonitors _))⟩
  · rw [recordAt_congr hqueue, recordAt_endTest, if_pos hslot, hx]
    rfl
  · rw [recordAt_congr hqueue, recordAt_endTest, hslot, if_neg fun h => hj (Option.some.inj h).symm]
  · simp only [normalDecision, judgeMonitors_frame]
    rw [setMode_unchecked, endTest_unchecked hslot hx]

/-! ## The end of a ramp (R41) -/

theorem exec_demandRampEnd {s : State} {r : Ramp} (h : s.demand.ramp = some r) :
    exec .demandRampEnd s = .next (reportRampEnd (s.withDemand { s.demand with speed := r.target, ramp := none })) := by
  have hexec : exec .demandRampEnd s = .next (demandRampEnd s) := rfl
  rw [hexec, demandRampEnd, h]

/-- HOLD begins with its time, or runs on. -/
theorem enterHold_waits {s : State} {c : TestContext} {left : Nat}
    (h : (c.stepTimer = .unloaded ∧ holdTime c.copy c.step ≠ 0 ∧ left = holdTime c.copy c.step * 100) ∨
      c.stepTimer = .running left ∨ c.stepTimer = .frozen left) :
    enterHold c s = (judgeMonitors (s.withCtx (some { c with phase := .hold, stepTimer := .running left })), none) := by
  unfold enterHold
  rcases h with ⟨htimer, htime, rfl⟩ | htimer | htimer <;> rw [htimer]
  exact congrArg (Prod.mk _) (if_neg htime)

theorem judgeMonitors_withSup (s : State) : judgeMonitors s = s.withSup (judgeMonitors s).sup := by
  apply State.eq_of_fields <;> simp

/-- Settles O14: by the phase in which the ramp ends. -/
theorem rampEndReported : Obligations.RampEndReported := by
  intro s r hramp ended
  have hexec : exec .demandRampEnd s = .next (reportRampEnd ended) := exec_demandRampEnd hramp
  have hqueue : ended.queue = s.queue := rfl
  have hrest : atRest ended = atRest s := atRest_of_link rfl
  have hctx : ended.ctx = s.ctx := rfl
  have hmode : ended.mode = s.mode := rfl
  have hleak : ended.leak = s.leak := rfl
  have hzero : ended.zero = s.zero := rfl
  have hlatches : ended.sup.latches = s.sup.latches := rfl
  have hkept : SettingsKept s ended := kept_withDemand s _
  clear_value ended
  rw [hexec]
  refine ⟨fun hnone => by rw [reportRampEnd, hctx, hnone], fun c hc => ⟨fun hphase hrun left hleft => ?_, fun hphase => ?_,
    fun hphase => ?_⟩⟩
  · have hreport : reportRampEnd ended =
        judgeMonitors (ended.withCtx (some { c with phase := .hold, stepTimer := .running left })) := by
      have hact : seqAct .enterHold ended =
          (judgeMonitors (ended.withCtx (some { c with phase := .hold, stepTimer := .running left })), none) := by
        rw [seqAct, hctx, hc]
        exact enterHold_waits hleft
      rw [reportRampEnd, hctx, hc]
      simp only [hphase, hmode, hrun, if_true]
      exact sequence_last hact
    refine ⟨_, congrArg Host.Outcome.next hreport, judgeMonitors_withSup _, ?_⟩
    rw [judgeMonitors_latches]
    exact hlatches
  · have hreport : reportRampEnd ended = reversalWait c ended := by rw [reportRampEnd, hctx, hc]; simp only [hphase]
    rw [hreport, reversalWait_withCtx, hrest]
  · have hreport : reportRampEnd ended = finishWait c ended := by rw [reportRampEnd, hctx, hc]; simp only [hphase]
    rw [hreport]
    refine ⟨fun hmoving => ?_, fun hstill hnot => ?_, fun hstill hnext hnotRun => ?_, fun i x hstill hnext hrun hslot hx => ?_⟩
    · rw [finishWait_waits c (hrest.trans hmoving)]
    · rw [finishWait_vents (hrest.trans hstill) (by rw [hleak]; exact hnot)]
      rfl
    · rw [finishWait_passes (hrest.trans hstill) (by rw [hleak]; exact hnext), enterZeroWait_held (by
        rw [State.withCtx_mode, hmode]; exact hnotRun)]
      rfl
    · rw [finishWait_passes (hrest.trans hstill) (by rw [hleak]; exact hnext)]
      have hrun' : (ended.withCtx (some { c with phase := .finish .standstillWait, standstill := .running 5000 })).mode.mode =
          .run := by rw [State.withCtx_mode, hmode, hrun]
      have hdue : checkDue (ended.withCtx (some { c with phase := .finish .standstillWait, standstill := .running 5000 })) =
          true ↔ x.leak.isSome = true ∧ (s.zero.interval ≤ s.zero.unchecked + 1 ∨ s.zero.forced = true) := by
        rw [← checkDue_iff hslot hx]
        exact iff_of_eq (congrArg (· = true) (checkDue_congr hqueue hzero))
      refine ⟨fun h => ?_, fun h => ?_⟩
      · rw [enterZeroWait_due hrun' (hdue.2 h)]
        refine congrArg Host.Outcome.next ?_
        rw [startCheck, ← hzero]
        rfl
      · rw [enterZeroWait_decides hrun' (fun hd => h (hdue.1 hd))]
        have hslot' : onTestSlot (toFinishStage { c with phase := .finish .standstillWait, standstill := .stopped }
            .decisionDue false (ended.withCtx (some { c with phase := .finish .standstillWait, standstill := .running 5000 }))) =
            some i := (onTestSlot_congr hqueue).trans hslot
        have hx' : recordAt (toFinishStage { c with phase := .finish .standstillWait, standstill := .stopped }
            .decisionDue false (ended.withCtx (some { c with phase := .finish .standstillWait, standstill := .running 5000 }))) i =
            some x := (recordAt_congr hqueue i).trans hx
        obtain ⟨hready, htarget, hnone, hrecord, hothers, hcount, hleak', hkept'⟩ := normalDecision_spec hslot' hx'
        refine ⟨_, rfl, hready, htarget.trans (congrArg ModeController.target hmode), hnone, hrecord.trans ?_,
          fun j hj => (hothers j hj).trans (recordAt_congr hqueue j), hcount.trans ?_, hleak'.trans hleak, ?_⟩
        · exact congrArg some (congrFun (decided_of_copy rfl) x)
        · rw [← hzero]
          rfl
        · have hall := hkept.trans ((kept_withCtx ended _).trans ((kept_withCtx _ _).trans hkept'))
          exact ⟨hall.store, hall.link, hall.ports, hall.pending⟩

end Sys2Proof.Machine
end


section
/-! PROOFS. The end of a step: the next step, a loop or FINISH (R42 to R46, R52, R110 to R118): O18. -/

namespace Sys2Proof.Machine

/-! ## The run-in section through the Leak Controller's posts -/

/-- The run-in section of the record ON TEST stays. -/
def RunInKept (s t : State) : Prop := ∀ i r, Testing s i r → ∃ r', Testing t i r' ∧ r'.runIn = r.runIn

theorem RunInKept.trans {s t u : State} (h : RunInKept s t) (h' : RunInKept t u) : RunInKept s u := fun i r hr => by
  obtain ⟨x, hx, hxr⟩ := h i r hr
  obtain ⟨y, hy, hyx⟩ := h' i x hx
  exact ⟨y, hy, hyx.trans hxr⟩

theorem RunInKept.of_queue {s t : State} (h : t.queue = s.queue) : RunInKept s t := fun _ r hr => ⟨r, hr.congr h, rfl⟩

theorem RunInKept.rfl {s : State} : RunInKept s s := .of_queue (.refl _)

theorem runInKept_postLeak (f : LeakSection → LeakSection) (s : State) : RunInKept s (postLeak f s) :=
  fun _ _ hr => ⟨_, hr.postLeak f, rfl⟩

theorem runInKept_setLeakOutcome (o : LeakOutcome) (s : State) : RunInKept s (setLeakOutcome o s) :=
  fun _ _ hr => ⟨_, hr.setLeakOutcome o, rfl⟩

theorem runInKept_leakEnded (n : Nat) (w : EndReason) (s : State) : RunInKept s (postEndReason n w (leakLeave s)) :=
  fun _ _ hr => ⟨_, hr.leakLeave.postEndReason n w, rfl⟩

theorem runInKept_leakEnterVent (s : State) : RunInKept s (leakEnterVent s) := .of_queue (by simp)

theorem runInKept_leakEnterFill (c : TestContext) (n : Nat) (s : State) : RunInKept s (leakEnterFill c n s) :=
  fun _ _ hr => ⟨_, ((hr.leakLeave.withLeak _).postLeak fun l => { l with attempts := n }).congr
    (requestUnlessPending_queue _ _ _), rfl⟩

theorem runInKept_leakInterrupt (w : EndReason) (s : State) : RunInKept s (leakInterrupt w s) := by
  have hended := runInKept_leakEnded s.leak.attempts w s
  unfold leakInterrupt
  dsimp only
  split
  · exact hended.trans (.of_queue rfl)
  · exact hended.trans ((runInKept_setLeakOutcome _ _).trans (runInKept_leakEnterVent _))

theorem runInKept_leakStepStart (c : TestContext) (first : Bool) (s : State) : RunInKept s (leakStepStart c first s) := by
  unfold leakStepStart leakQuietOpening
  split
  · split
    · exact runInKept_leakEnterFill c 1 s
    · exact .rfl
  · split
    · split
      · split
        · exact .rfl
        · exact .of_queue rfl
      · exact runInKept_leakEnterFill c 2 s
      all_goals exact .rfl
    · split
      · exact runInKept_leakInterrupt _ s
      · exact .rfl

/-! ## The Leak Controller at a step start (R110, R112, R116, R117) -/

theorem leakStepStart_idle {s : State} (h : s.leak.phase = .idle) (c : TestContext) (first : Bool) :
    (leakEnabled c.copy = true ∧ first = true ∧ c.step = triggerStep c.copy →
      leakStepStart c first s = leakEnterFill c 1 s) ∧
    (¬(leakEnabled c.copy = true ∧ first = true ∧ c.step = triggerStep c.copy) → leakStepStart c first s = s) := by
  rw [leakStepStart, if_pos h]
  exact ⟨fun h => if_pos h, fun h => if_neg h⟩

theorem leakStepStart_quiet {s : State} (h : s.leak.phase ≠ .idle) {c : TestContext} (hquiet : leakQuiet c.copy c.step = true)
    (first : Bool) : leakStepStart c first s = leakQuietOpening c s := by
  rw [leakStepStart, if_neg h, if_pos hquiet]

theorem leakStepStart_loud {s : State} (h : s.leak.phase ≠ .idle) {c : TestContext}
    (hloud : leakQuiet c.copy c.step = false) (first : Bool) :
    (Interruptible s → leakStepStart c first s = leakInterrupt .step s) ∧
    (¬Interruptible s → leakStepStart c first s = s) := by
  rw [leakStepStart, if_neg h, if_neg (by simp [hloud]), ← leakInterruptible_iff]
  exact ⟨fun h => if_pos h, fun h => if_neg h⟩

/-! ## A step start (R42, R43) -/

/-- A step has started and stands in a context with a demand. -/
def stepEntered (k : Nat) (c x : TestContext) (d : Demand) (s : State) : State :=
  referenceChange (((stepReported k c s).withCtx (some x)).withDemand d)

theorem enterReverse_still {s : State} (c : TestContext) (hspeed : s.demand.speed = 0) (hmoving : atRest s = false) :
    enterReverse c s = referenceChange ((s.withCtx (some
      { c with phase := .reverse .standstillWait, standstill := .running 5000 })).withDemand { s.demand with wheel := 0 }) := by
  have hrest : atRest (s.withDemand { s.demand with wheel := 0 }) = false := (atRest_of_link rfl).trans hmoving
  have hspeed' : (s.demand.speed != 0) = false := by simp [hspeed]
  simp only [enterReverse, hspeed', Bool.false_and, Bool.false_eq_true, if_false]
  rw [reversalWait_withCtx, if_neg (by simp [hrest])]
  rfl

theorem enterReverse_moving {s : State} {c : TestContext} (hspeed : s.demand.speed ≠ 0)
    (htime : rampTime c.copy c.step ≠ 0) :
    enterReverse c s = referenceChange ((s.withCtx (some { c with phase := .reverse .rampDown })).withDemand
      { s.demand with wheel := 0, ramp := some ⟨s.demand.speed, 0, rampTime c.copy c.step, 0⟩ }) := by
  have hspeed' : (s.demand.speed != 0) = true := by simpa using hspeed
  simp only [enterReverse, hspeed', Bool.true_and, if_true, startRamp, if_neg htime, Option.isSome_some]
  rfl

section
variable {s : State} {c : TestContext} (hc : s.ctx = some c) {k : Nat} (htime : rampTime c.copy k ≠ 0) (n : Nat)
include hc htime

/-- A step in the demand's direction, or one that turns it at rest, is in RAMP. -/
theorem startStep_ramps
    (h : stepDirection c.copy k = s.demand.direction ∨ (s.demand.speed = 0 ∧ atRest s = true)) :
    runSequence (n + 2) (.startStep k) s =
      stepEntered k c { stepContext k c with phase := .ramp }
        { rampDemand (stepContext k c) s.demand with direction := stepDirection c.copy k } s := by
  have hramp : ∀ t : State, t.ctx = some (stepContext k c) → seqAct .enterRamp t =
      (referenceChange ((t.withCtx (some { stepContext k c with phase := .ramp })).withDemand
        (rampDemand (stepContext k c) t.demand)), none) := fun t ht => by
    have htime' : rampTime (stepContext k c).copy (stepContext k c).step ≠ 0 := htime
    rw [seqAct, ht]
    simp only [enterRamp, startRamp, if_neg htime', wheelSetpoint_eq]
    rfl
  have hstart : seqAct (.startStep k) s = startStep k c s := by rw [seqAct, hc]
  by_cases hsame : stepDirection c.copy k = s.demand.direction
  · rw [startStep_eq, if_pos hsame] at hstart
    rw [runSequence_then hstart, runSequence_last (hramp _ (stepReported_ctx k c s)), stepReported_demand, stepEntered, hsame]
    rfl
  · rw [startStep_eq, if_neg hsame, if_pos (h.resolve_left hsame)] at hstart
    have hturned := hramp ((stepReported k c s).withDemand { s.demand with direction := stepDirection c.copy k })
      (stepReported_ctx k c s)
    rw [runSequence_then hstart, runSequence_last hturned]
    rfl

/-- A step against the direction is in REVERSE: it waits for standstill, or ramps down. -/
theorem startStep_reverses (hturn : stepDirection c.copy k ≠ s.demand.direction) :
    (s.demand.speed = 0 → atRest s = false → runSequence (n + 2) (.startStep k) s =
      stepEntered k c { stepContext k c with phase := .reverse .standstillWait, standstill := .running 5000 }
        { s.demand with wheel := 0 } s) ∧
    (s.demand.speed ≠ 0 → runSequence (n + 2) (.startStep k) s =
      stepEntered k c { stepContext k c with phase := .reverse .rampDown }
        { s.demand with wheel := 0, ramp := some ⟨s.demand.speed, 0, rampTime c.copy k, 0⟩ } s) := by
  have hstart : seqAct (.startStep k) s = startStep k c s := by rw [seqAct, hc]
  have hrest : atRest (stepReported k c s) = atRest s := atRest_of_link (stepReported_link k c s)
  refine ⟨fun hspeed hmoving => ?_, fun hspeed => ?_⟩
  · rw [startStep_eq, if_neg hturn, if_neg (by simp [hmoving])] at hstart
    rw [runSequence_last hstart, enterReverse_still _ (by rw [stepReported_demand, hspeed]) (hrest.trans hmoving),
      stepReported_demand, stepEntered]
  · rw [startStep_eq, if_neg hturn, if_neg (by simp [hspeed])] at hstart
    rw [runSequence_last hstart, enterReverse_moving (by rw [stepReported_demand]; exact hspeed) htime,
      stepReported_demand, stepEntered]
    rfl

end

/-- The state in which the Leak Controller takes the report of a step start. -/
def stepReporting (k : Nat) (c : TestContext) (s : State) : State :=
  abandonBlock (postRunIn (fun r => { r with lastStep := k }) (s.withCtx (some (stepContext k c))))

theorem stepReported_eq (k : Nat) (c : TestContext) (s : State) :
    stepReported k c s =
      monitorsStepStart (leakStepStart (stepContext k c) (!(c.started[k]?.getD false)) (stepReporting k c s)) := rfl

theorem leakReady_stepReporting (k : Nat) (c : TestContext) (s : State) : LeakReady s (stepReporting k c s) := by
  have hstarted : LeakReady s (s.withCtx (some (stepContext k c))) := .of_eq rfl rfl rfl
  have habandoned : ∀ t : State, LeakReady t (abandonBlock t) := fun t => .of_eq rfl rfl rfl
  exact (hstarted.trans (leakReady_postRunIn (fun r => { r with lastStep := k }) _)).trans (habandoned _)

theorem leakDone_stepEntered (k : Nat) (c x : TestContext) (d : Demand) (s : State) :
    LeakDone (leakStepStart (stepContext k c) (!(c.started[k]?.getD false)) (stepReporting k c s))
      (stepEntered k c x d s) := by
  constructor <;> simp [stepEntered, stepReported_eq]

theorem monitorsStepStart_latches (s : State) : (monitorsStepStart s).sup.latches = s.sup.latches := referenceChange_latches _

theorem stepEntered_frame (k : Nat) (c x : TestContext) (d : Demand) (s : State) :
    (stepEntered k c x d s).ctx = some x ∧ (stepEntered k c x d s).demand = d ∧
    (stepEntered k c x d s).noise.block = none ∧ (stepEntered k c x d s).sup.latches = s.sup.latches := by
  refine ⟨by simp [stepEntered], by simp [stepEntered], by simp [stepEntered, stepReported_eq, stepReporting, abandonBlock], ?_⟩
  rw [stepEntered, referenceChange_latches, State.withDemand_sup, State.withCtx_sup, stepReported_eq,
    monitorsStepStart_latches]
  simp [stepReporting]

/-- The Leak Controller's part in a step start. -/
theorem leak_stepEntered (k : Nat) (c x : TestContext) (d : Demand) (s : State) :
    (s.leak.phase = .idle →
      (leakEnabled c.copy = true ∧ c.started[k]?.getD false = false ∧ k = triggerStep c.copy →
        AttemptBegins c 1 s (stepEntered k c x d s)) ∧
      (¬(leakEnabled c.copy = true ∧ c.started[k]?.getD false = false ∧ k = triggerStep c.copy) →
        (stepEntered k c x d s).leak = s.leak)) ∧
    (s.leak.phase ≠ .idle → leakQuiet c.copy k = true → QuietOpening c s (stepEntered k c x d s)) ∧
    (s.leak.phase ≠ .idle → leakQuiet c.copy k = false →
      (Interruptible s → AttemptInterrupted .step s (stepEntered k c x d s)) ∧
      (¬Interruptible s → (stepEntered k c x d s).leak = s.leak)) := by
  have hready := leakReady_stepReporting k c s
  have hdone := leakDone_stepEntered k c x d s
  generalize stepReporting k c s = u at *
  generalize stepEntered k c x d s = t at *
  have hinterruptible : Interruptible u ↔ Interruptible s := by rw [Interruptible, hready.leak]; rfl
  rw [← hready.leak]
  refine ⟨fun hidle => ?_, fun hphase hquiet => ?_, fun hphase hloud => ?_⟩
  · obtain ⟨hbegins, hstays⟩ := leakStepStart_idle hidle (stepContext k c) (!(c.started[k]?.getD false))
    refine ⟨fun htriggers => ?_, fun hnot => ?_⟩
    · rw [hbegins (by simpa [stepContext] using htriggers)] at hdone
      exact (attemptBegins_enterFill (stepContext k c) 1 u).widen hready hdone
    · rw [hstays (by simpa [stepContext] using hnot)] at hdone
      exact hdone.leak
  · rw [leakStepStart_quiet hphase (c := stepContext k c) hquiet] at hdone
    exact (quietOpening_leakQuietOpening (stepContext k c) u).widen hready hdone
  · obtain ⟨hends, hstays⟩ := leakStepStart_loud hphase (c := stepContext k c) hloud (!(c.started[k]?.getD false))
    refine ⟨fun h => ?_, fun h => ?_⟩
    · rw [hends (hinterruptible.2 h)] at hdone
      exact (attemptInterrupted_leakInterrupt .step u).widen hready hdone
    · rw [hstays (fun hu => h (hinterruptible.1 hu))] at hdone
      exact hdone.leak

theorem runIn_stepEntered {k : Nat} {c : TestContext} (x : TestContext) (d : Demand) {s : State} {i : Fin 16} {r : Record}
    (h : Testing s i r) :
    ∃ r', Testing (stepEntered k c x d s) i r' ∧ r'.runIn = r.runIn.map fun y => { y with lastStep := k } := by
  have hposted : Testing (stepReporting k c s) i { r with runIn := r.runIn.map fun y => { y with lastStep := k } } :=
    ((h.congr (t := s.withCtx (some (stepContext k c))) rfl).postRunIn fun y => { y with lastStep := k }).congr rfl
  obtain ⟨r', hr', hrunIn⟩ := runInKept_leakStepStart (stepContext k c) (!(c.started[k]?.getD false)) _ i _ hposted
  exact ⟨r', hr'.congr (leakDone_stepEntered k c x d s).queue, hrunIn⟩

/-! ## FINISH (R52, R118) -/

theorem leakFinish_testing {s : State}
    (h : s.leak.phase = .fill ∨ s.leak.phase = .settle ∨ s.leak.phase = .measure ∨ s.leak.phase = .wait) :
    leakFinish s =
      leakEnterVent (setLeakOutcome .notDecided (postEndReason s.leak.attempts .finish (leakLeave s))) := by
  rcases h with h | h | h | h <;> rw [leakFinish, h]

theorem leakFinish_other {s : State} (h : s.leak.phase = .idle ∨ s.leak.phase = .vent ∨ s.leak.phase = .done) :
    leakFinish s = s := by
  rcases h with h | h | h <;> rw [leakFinish, h]

/-- What FINISH posts of an attempt. -/
def finishPost (attempt : Nat) (l : LeakSection) : LeakSection :=
  if attempt = 1 then { l with outcome := some .notDecided, endOf1 := some .finish }
  else { l with outcome := some .notDecided, endOf2 := some .finish }

theorem leakFinish_spec {s : State}
    (h : s.leak.phase = .fill ∨ s.leak.phase = .settle ∨ s.leak.phase = .measure ∨ s.leak.phase = .wait) :
    (leakFinish s).leak =
      { leftLeak { leftLeak s.leak with outcome := some .notDecided } with phase := .vent, request := .running 10 } ∧
    LeakPosted (finishPost s.leak.attempts) s (leakFinish s) := by
  rw [leakFinish_testing h]
  refine ⟨by simp [leakEnterVent_leak, setLeakOutcome_leak, leakLeave_leak], leakPosted_of fun i r hr => ?_⟩
  have hpost := ((hr.leakLeave.postEndReason s.leak.attempts .finish).setLeakOutcome .notDecided).leakEnterVent
  have hboth : (fun l : LeakSection => { endWith s.leak.attempts .finish l with outcome := some .notDecided }) =
      finishPost s.leak.attempts := funext fun l => by
    rw [endWith, finishPost]
    split <;> rfl
  rw [Option.map_map] at hpost
  rw [← hboth]
  exact hpost

theorem runInKept_leakFinish (s : State) : RunInKept s (leakFinish s) := by
  have hended : RunInKept s (leakEnterVent (setLeakOutcome .notDecided
      (postEndReason s.leak.attempts .finish (leakLeave s)))) :=
    (runInKept_leakEnded _ _ s).trans ((runInKept_setLeakOutcome _ _).trans (runInKept_leakEnterVent _))
  cases hphase : s.leak.phase with
  | fill => rw [leakFinish_testing (by simp [hphase])]; exact hended
  | settle => rw [leakFinish_testing (by simp [hphase])]; exact hended
  | measure => rw [leakFinish_testing (by simp [hphase])]; exact hended
  | wait => rw [leakFinish_testing (by simp [hphase])]; exact hended
  | idle => rw [leakFinish_other (by simp [hphase])]; exact .rfl
  | vent => rw [leakFinish_other (by simp [hphase])]; exact .rfl
  | done => rw [leakFinish_other (by simp [hphase])]; exact .rfl

/-! ## A completion (R46) -/

/-- The step's completion is posted. -/
def stepCompleted (s : State) : State :=
  postRunIn (fun r => { r with stepsCompleted := min 255 (r.stepsCompleted + 1) }) s

theorem completeStep_loops {s : State} {c : TestContext}
    (h : loopTarget c.copy c.step ≠ 255 ∧ c.loop < loopCount c.copy c.step) :
    completeStep c s = ((stepCompleted s).withCtx (some { c with loop := c.loop + 1, stepTimer := .unloaded }),
      some (.startStep (loopTarget c.copy c.step))) := by
  obtain ⟨htarget, hcount⟩ := h
  simp only [completeStep, loopNone, bne_iff_ne.2 htarget, hcount, decide_true, Bool.and_self, if_true]
  rfl

/-- The loop counter when the loop is done. -/
theorem completeStep_goesOn {s : State} {c : TestContext}
    (h : ¬(loopTarget c.copy c.step ≠ 255 ∧ c.loop < loopCount c.copy c.step)) :
    completeStep c s =
      if c.step + 1 < stepCount c.copy then
        ((stepCompleted s).withCtx (some { c with
          loop := if loopTarget c.copy c.step ≠ 255 then 0 else c.loop, stepTimer := .unloaded }),
          some (.startStep (c.step + 1)))
      else (enterFinish { c with
        loop := if loopTarget c.copy c.step ≠ 255 then 0 else c.loop, stepTimer := .unloaded } (stepCompleted s), none) := by
  have hnot : ¬(loopTarget c.copy c.step != loopNone && decide (c.loop < loopCount c.copy c.step)) = true := by
    simpa [loopNone] using h
  have hloop : (loopTarget c.copy c.step != loopNone) = true ↔ loopTarget c.copy c.step ≠ 255 := bne_iff_ne
  simp only [completeStep, if_neg hnot, hloop]
  rfl

theorem exec_stepExpiry {s : State} {c : TestContext} (hc : s.ctx = some c) (hphase : c.phase = .hold)
    (htimer : c.stepTimer.isRunning = true) (hmode : s.mode.mode = .run) :
    exec .stepTimerExpiry s = .next (sequence .complete s) := by
  have hexec : exec .stepTimerExpiry s = .next (stepExpiry s) := rfl
  rw [hexec, stepExpiry, hc]
  exact congrArg Host.Outcome.next (if_pos ⟨hphase, htimer, hmode⟩)

end Sys2Proof.Machine
end


section
/-! PROOFS. The step timer's expiry (R46): O18. -/

namespace Sys2Proof.Machine

/-- The test context after a completion, with its loop counter. -/
def contextCompleted (c : TestContext) (loop : Nat) : TestContext := { c with loop := loop, stepTimer := .unloaded }

/-- A completion that starts step `k`. -/
def nextStep (c : TestContext) (loop : Nat) (s : State) : State := (stepCompleted s).withCtx (some (contextCompleted c loop))

theorem leakReady_nextStep (c : TestContext) (loop : Nat) (s : State) : LeakReady s (nextStep c loop s) :=
  (leakReady_postRunIn _ s).trans (.of_eq rfl rfl rfl)

theorem nextStep_frame (c : TestContext) (loop : Nat) (s : State) :
    (nextStep c loop s).demand = s.demand ∧ (nextStep c loop s).link = s.link ∧
    (nextStep c loop s).sup = s.sup := by
  simp [nextStep, stepCompleted]

theorem Testing.stepCompleted {s : State} {i : Fin 16} {r : Record} (h : Testing s i r) :
    Testing (stepCompleted s) i
      { r with runIn := r.runIn.map fun x => { x with stepsCompleted := min 255 (x.stepsCompleted + 1) } } := h.postRunIn _

theorem sequence_complete {s : State} {c : TestContext} (hc : s.ctx = some c) {k loop : Nat}
    (h : completeStep c s = (nextStep c loop s, some (.startStep k))) :
    sequence .complete s = runSequence (1597 + 2) (.startStep k) (nextStep c loop s) := by
  have hact : seqAct .complete s = (nextStep c loop s, some (.startStep k)) := by rw [seqAct, hc]; exact h
  exact runSequence_then (n := 1597 + 2) hact

/-- The state that a step start of RAMP TIME above 0 enters: RAMP, or one of the two stages of REVERSE. -/
theorem nextStep_enters {s : State} {c : TestContext} {k loop : Nat} (htime : rampTime c.copy k ≠ 0) :
    ∃ x d, runSequence (1597 + 2) (.startStep k) (nextStep c loop s) =
        stepEntered k (contextCompleted c loop) x d (nextStep c loop s) ∧
      (stepDirection c.copy k = s.demand.direction ∨ (s.demand.speed = 0 ∧ atRest s = true) →
        x = { stepContext k (contextCompleted c loop) with phase := .ramp } ∧
        d = { rampDemand (stepContext k (contextCompleted c loop)) s.demand with direction := stepDirection c.copy k }) ∧
      (stepDirection c.copy k ≠ s.demand.direction → s.demand.speed = 0 → atRest s = false →
        x = { stepContext k (contextCompleted c loop) with
          phase := .reverse .standstillWait, standstill := .running 5000 } ∧ d = { s.demand with wheel := 0 }) ∧
      (stepDirection c.copy k ≠ s.demand.direction → s.demand.speed ≠ 0 →
        x = { stepContext k (contextCompleted c loop) with phase := .reverse .rampDown } ∧
        d = { s.demand with wheel := 0, ramp := some ⟨s.demand.speed, 0, rampTime c.copy k, 0⟩ }) := by
  obtain ⟨hdemand, hlink, -⟩ := nextStep_frame c loop s
  have hctx : (nextStep c loop s).ctx = some (contextCompleted c loop) := rfl
  have hrest : atRest (nextStep c loop s) = atRest s := atRest_of_link hlink
  generalize nextStep c loop s = u at *
  rw [← hdemand, ← hrest]
  have htime' : rampTime (contextCompleted c loop).copy k ≠ 0 := htime
  by_cases hramps : stepDirection c.copy k = u.demand.direction ∨ (u.demand.speed = 0 ∧ atRest u = true)
  · refine ⟨_, _, startStep_ramps hctx htime' 1597 hramps, fun _ => ⟨rfl, rfl⟩, fun hturn hspeed hmoving => ?_,
      fun hturn hspeed => ?_⟩
    · have hstill := (hramps.resolve_left hturn).2
      rw [hmoving] at hstill
      cases hstill
    · exact absurd (hramps.resolve_left hturn).1 hspeed
  · obtain ⟨hturn, hnotStill⟩ := not_or.1 hramps
    obtain ⟨hwaits, hmoves⟩ := startStep_reverses hctx htime' 1597 hturn
    by_cases hspeed : u.demand.speed = 0
    · have hmoving : atRest u = false := by simpa [hspeed] using hnotStill
      exact ⟨_, _, hwaits hspeed hmoving, fun h => absurd h hramps, fun _ _ _ => ⟨rfl, rfl⟩, fun _ h => absurd hspeed h⟩
    · exact ⟨_, _, hmoves hspeed, fun h => absurd h hramps, fun _ h => absurd h hspeed, fun _ _ => ⟨rfl, rfl⟩⟩

/-- FINISH after the last step. -/
theorem enterFinish_spec (c : TestContext) (s : State) :
    (enterFinish c s).ctx = some { c with phase := .finish .rampDown } ∧
    (enterFinish c s).demand = { s.demand with ramp := some ⟨s.demand.speed, 0, 2000, 0⟩, wheel := 0 } ∧
    (enterFinish c s).noise.block = none ∧ (enterFinish c s).sup.latches = s.sup.latches ∧
    ∃ u, LeakReady s u ∧ u.queue = s.queue ∧ LeakDone (leakFinish u) (enterFinish c s) := by
  refine ⟨enterFinish_ctx c s, ?_, by simp [enterFinish, abandonBlock], by simp [enterFinish, referenceChange_latches],
    abandonBlock ((s.withCtx (some { c with phase := .finish .rampDown })).withDemand
      { startRamp 0 Config.restRampMs s.demand with wheel := 0 }), .of_eq rfl rfl rfl, rfl, leakDone_referenceChange _⟩
  simp [enterFinish, startRamp, Config.restRampMs]

/-- Settles O18: the completion, then the start of the next step or FINISH. -/
theorem stepExpiryMovesOn : Obligations.StepExpiryMovesOn := by
  intro s c hc hphase htimer hmode looping left completed
  rw [exec_stepExpiry hc hphase htimer hmode]
  obtain ⟨htmode, htstore, htlink, -, htports, htevents, -, -, htpending⟩ := sequence_frame .complete s
  refine ⟨?_, fun hdone hlast => ?_⟩
  · intro k loop hnext htime first same started driven triggers
    have hcompleted : completeStep c s = (nextStep c loop s, some (.startStep k)) := by
      rcases hnext with ⟨hloop, rfl, rfl⟩ | ⟨hdone, hmore, rfl, rfl⟩
      · exact completeStep_loops hloop
      · rw [completeStep_goesOn hdone, if_pos hmore]
        rfl
    obtain ⟨x, d, hentered, hramps, hwaits, hmoves⟩ := nextStep_enters (s := s) (c := c) (k := k) (loop := loop) htime
    have ht := (sequence_complete hc hcompleted).trans hentered
    have hready := leakReady_nextStep c loop s
    obtain ⟨-, -, hsup⟩ := nextStep_frame c loop s
    have htesting : ∀ i r, Testing s i r → Testing (nextStep c loop s) i
        { r with runIn := r.runIn.map fun x => { x with stepsCompleted := min 255 (x.stepsCompleted + 1) } } :=
      fun i r h => h.stepCompleted.congr rfl
    obtain ⟨hctx, hdemand, hblock, hlatches⟩ := stepEntered_frame k (contextCompleted c loop) x d (nextStep c loop s)
    obtain ⟨hidle, hquiet, hloud⟩ := leak_stepEntered k (contextCompleted c loop) x d (nextStep c loop s)
    have hrunIn : ∀ i r, Testing (nextStep c loop s) i r → _ :=
      fun i r h => runIn_stepEntered (k := k) (c := contextCompleted c loop) x d h
    rw [← ht] at hctx hdemand hblock hlatches hidle hquiet hloud hrunIn
    generalize sequence .complete s = t at *
    have hsame : LeakDone t t := ⟨rfl, rfl, rfl⟩
    rw [hready.leak] at hidle hquiet hloud
    have hinterruptible : Interruptible (nextStep c loop s) ↔ Interruptible s := by
      rw [Interruptible, hready.leak]; rfl
    refine ⟨t, rfl, fun h => ?_, fun hturn hspeed hmoving => ?_, fun hturn hspeed => ?_, fun h => ?_, fun h hq => ?_,
      fun h hl => ?_, fun i r y hslot hr hy => ?_, htmode, hblock, hlatches.trans (congrArg _ hsup), htstore, htlink,
      htports, htevents, htpending⟩
    · obtain ⟨rfl, rfl⟩ := hramps h
      exact ⟨hctx, hdemand⟩
    · obtain ⟨rfl, rfl⟩ := hwaits hturn hspeed hmoving
      exact ⟨hctx, hdemand⟩
    · obtain ⟨rfl, rfl⟩ := hmoves hturn hspeed
      exact ⟨hctx, hdemand⟩
    · obtain ⟨hbegins, hstays⟩ := hidle h
      exact ⟨fun htriggers => (hbegins htriggers).widen hready hsame, fun hnot => hstays hnot⟩
    · exact (hquiet h hq).widen hready hsame
    · obtain ⟨hends, hstays⟩ := hloud h hl
      exact ⟨fun hi => (hends (hinterruptible.2 hi)).widen hready hsame, fun hi => hstays fun hu => hi (hinterruptible.1 hu)⟩
    · obtain ⟨r', hr', hrun⟩ := hrunIn i _ (htesting i r ⟨hslot, hr⟩)
      exact ⟨r', hr'.record, by rw [hrun, hy]; rfl⟩
  · have hact : seqAct .complete s = (enterFinish (contextCompleted c left) (stepCompleted s), none) := by
      rw [seqAct, hc]
      exact (completeStep_goesOn hdone).trans (if_neg hlast)
    obtain ⟨hctx, hdemand, hblock, hlatches, u, hready, hqueue, hfinished⟩ :=
      enterFinish_spec (contextCompleted c left) (stepCompleted s)
    have hreadyAll : LeakReady s u := (leakReady_postRunIn _ s).trans hready
    rw [← sequence_last hact] at hctx hdemand hblock hlatches hfinished
    generalize sequence .complete s = t at *
    have hdemand' : (stepCompleted s).demand = s.demand := by simp [stepCompleted]
    have hsup' : (stepCompleted s).sup = s.sup := by simp [stepCompleted]
    rw [hdemand'] at hdemand
    refine ⟨t, rfl, hctx, hdemand, ⟨fun hx => ?_, fun hx => ?_⟩, fun i r y hslot hr hy => ?_, htmode, hblock,
      hlatches.trans (congrArg _ hsup'), htstore, htlink, htports, htevents, htpending⟩
    · rw [← hreadyAll.leak] at hx
      obtain ⟨hleak, hposted⟩ := leakFinish_spec hx
      rw [hreadyAll.leak] at hleak hposted
      have htleak := hfinished.leak.trans hleak
      rw [htleak]
      refine ⟨rfl, by simp, by simp, by simp, by simp, by simp, rfl, by simp, ?_⟩
      exact hposted.widen hreadyAll hfinished
    · rw [← hreadyAll.leak] at hx
      rw [leakFinish_other hx] at hfinished
      exact hfinished.leak.trans hreadyAll.leak
    · obtain ⟨r', hr', hrun⟩ := runInKept_leakFinish u i _ ((Testing.stepCompleted ⟨hslot, hr⟩).congr hqueue)
      exact ⟨r', (hr'.congr hfinished.queue).record, by rw [hrun, hy]; rfl⟩

end Sys2Proof.Machine
end


section
/-! SUPPORT. The reading of a status message (R59, R60, R170). -/

namespace Sys2Proof.Machine

/-! ## Numbers in messages -/

/-- A 16-bit number is read back from its two bytes. -/
theorem word16_bytes (x : Word16) : word16 (byte (x.toNat / 256)) (byte x.toNat) = x := by
  apply BitVec.eq_of_toNat_eq
  have hlow : x.toNat % 2 ^ 8 < 2 ^ 8 := Nat.mod_lt _ (by decide)
  simp only [word16, byte, BitVec.toNat_append, BitVec.toNat_ofNat]
  rw [← Nat.shiftLeft_add_eq_or_of_lt hlow, Nat.shiftLeft_eq]
  have := x.isLt
  omega

/-- A signed field is read as the number that was written. -/
theorem signed16_bytes {n : Int} (hlow : -32768 ≤ n) (hhigh : n < 32768) :
    signed16 (byte ((BitVec.ofInt 16 n).toNat / 256)) (byte (BitVec.ofInt 16 n).toNat) = n := by
  rw [signed16, word16_bytes, BitVec.toInt_ofInt]
  exact Int.bmod_eq_of_le (by simpa using hlow) (by simpa using hhigh)

theorem byte_toNat {n : Nat} (h : n < 256) : (byte n).toNat = n := by
  rw [byte, BitVec.toNat_ofNat]
  exact Nat.mod_eq_of_lt h

theorem driveOfNumber_driveNumber (d : DriveId) : driveOfNumber (driveNumber d) = some d := by cases d <;> rfl

theorem driveNumber_lt (d : DriveId) : driveNumber d < 256 := by cases d <;> decide

theorem driveStateOfCode_some {n : Nat} (h : n ≤ 3) : ∃ x, driveStateOfCode n = some x ∧ (x = .fault ↔ n = 3) := by
  interval_cases n <;> exact ⟨_, rfl, by decide⟩

theorem busStateOfCode_some {n : Nat} (h : n ≤ 2) : ∃ x, busStateOfCode n = some x ∧ (x = .normal ↔ n = 0) := by
  interval_cases n <;> exact ⟨_, rfl, by decide⟩

/-! ## Reading (R60) -/

/-- A message as a drive sends it is read. -/
theorem readStatus_formStatus (d : DriveId) (cycle : Byte) {st bus : Nat} {x : DriveState} {y : BusState}
    (hx : driveStateOfCode st = some x) (hy : busStateOfCode bus = some y) (hst : st ≤ 3) (hbus : bus ≤ 2)
    {speed torque : Int} (hslow : -5000 ≤ speed) (hshigh : speed ≤ 5000) (htlow : -32767 ≤ torque) (hthigh : torque ≤ 32767) :
    readStatus cycle (formStatus d cycle st bus speed torque) = some (d, ⟨x, speed, torque, y⟩) := by
  have hright : checkRight (formStatus d cycle st bus speed torque) = true := checkRight_append _
  have hspeed := signed16_bytes (n := speed) (by omega) (by omega)
  have htorque := signed16_bytes (n := torque) (by omega) (by omega)
  obtain ⟨last, hform⟩ : ∃ c, formStatus d cycle st bus speed torque =
      [byte (driveNumber d), cycle, byte st, byte bus, byte ((BitVec.ofInt 16 speed).toNat / 256),
        byte (BitVec.ofInt 16 speed).toNat, byte ((BitVec.ofInt 16 torque).toNat / 256),
        byte (BitVec.ofInt 16 torque).toNat, c] := ⟨_, rfl⟩
  rw [hform] at hright ⊢
  have hnumber := (congrArg driveOfNumber (byte_toNat (driveNumber_lt d))).trans (driveOfNumber_driveNumber d)
  simp only [readStatus, hnumber, byte_toNat (show st < 256 by omega), byte_toNat (show bus < 256 by omega), hx, hy, hright,
    hspeed, htorque, hslow, hshigh, htlow, and_self, if_true]

theorem driveOfNumber_none {n : Nat} (h : 2 < n) : driveOfNumber n = none := by
  unfold driveOfNumber
  split <;> simp_all

theorem driveStateOfCode_none {n : Nat} (h : 3 < n) : driveStateOfCode n = none := by
  unfold driveStateOfCode
  split <;> simp_all

theorem busStateOfCode_none {n : Nat} (h : 2 < n) : busStateOfCode n = none := by
  unfold busStateOfCode
  split <;> simp_all

/-- What is read is good in every part. -/
theorem readStatus_some {cycle : Byte} {bs : List Byte} {d : DriveId} {h : DriveStatus} (hread : readStatus cycle bs = some (d, h)) :
    ∃ id echo state bus sh sl th tl c, bs = [id, echo, state, bus, sh, sl, th, tl, c] ∧ id.toNat ≤ 2 ∧ state.toNat ≤ 3 ∧
      bus.toNat ≤ 2 ∧ checkRight bs = true ∧ echo = cycle ∧ -5000 ≤ signed16 sh sl ∧ signed16 sh sl ≤ 5000 ∧
      -32767 ≤ signed16 th tl := by
  unfold readStatus at hread
  split at hread
  case h_1 id echo state bus sh sl th tl c =>
    split at hread
    case h_1 x y z hx hy hz =>
      split at hread
      case isTrue hgood =>
        refine ⟨id, echo, state, bus, sh, sl, th, tl, c, rfl, ?_, ?_, ?_, hgood⟩
        · by_contra hlt
          rw [driveOfNumber_none (by omega)] at hx
          cases hx
        · by_contra hlt
          rw [driveStateOfCode_none (by omega)] at hy
          cases hy
        · by_contra hlt
          rw [busStateOfCode_none (by omega)] at hz
          cases hz
      case isFalse => cases hread
    case h_2 => cases hread
  case h_2 => cases hread

/-- A message that some part refuses is not read. -/
theorem readStatus_none {cycle : Byte} {bytes : List Byte}
    (h : bytes.length ≠ 9 ∨ checkRight bytes = false ∨ (∃ b, bytes[0]? = some b ∧ 2 < b.toNat) ∨
      (∃ b, bytes[1]? = some b ∧ b ≠ cycle) ∨ (∃ b, bytes[2]? = some b ∧ 3 < b.toNat) ∨
      (∃ b, bytes[3]? = some b ∧ 2 < b.toNat) ∨
      (∃ x y : Byte, bytes[4]? = some x ∧ bytes[5]? = some y ∧ ((x ++ y).toInt < -5000 ∨ 5000 < (x ++ y).toInt)) ∨
      (∃ x y : Byte, bytes[6]? = some x ∧ bytes[7]? = some y ∧ (x ++ y).toInt < -32767)) :
    readStatus cycle bytes = none := by
  cases hread : readStatus cycle bytes with
  | none => rfl
  | some p =>
    obtain ⟨id, echo, state, bus, sh, sl, th, tl, c, rfl, hid, hstate, hbus, hright, hecho, hslow, hshigh, htorque⟩ :=
      readStatus_some (h := p.2) hread
    rcases h with h | h | ⟨b, hb, hlt⟩ | ⟨b, hb, hne⟩ | ⟨b, hb, hlt⟩ | ⟨b, hb, hlt⟩ | ⟨x, y, hx, hy, hrange⟩ |
      ⟨x, y, hx, hy, hrange⟩
    · exact absurd rfl h
    · rw [hright] at h
      cases h
    · cases hb
      omega
    · cases hb
      exact absurd hecho hne
    · cases hb
      omega
    · cases hb
      omega
    · cases hx
      cases hy
      rcases hrange with hlt | hgt
      · exact absurd hslow (not_le.2 hlt)
      · exact absurd hshigh (not_le.2 hgt)
    · cases hx
      cases hy
      exact absurd htorque (not_le.2 hrange)

end Sys2Proof.Machine
end


section
/-! SUPPORT. What an accepted status message does in each block (R43, R52, R66, R67, R75, R79 to R81). -/

namespace Sys2Proof.Machine

/-! ## The post-reset standstill marks stay (R5) -/

theorem seen_setMode (m : Mode) (s : State) : (setMode m s).mode.seen = s.mode.seen := by rw [setMode_controller]

theorem seen_latch (k : LatchKind) (v : Nat) (s : State) : (latch k v s).mode.seen = s.mode.seen := by
  rw [latch_eq]
  split
  · unfold stopCause
    split
    · rw [enterStopped_controller]
      simp
    · simp
  · simp

theorem enterPause_controller (k : PauseKind) (s : State) :
    (enterPause k s).mode = { s.mode with mode := .pause, pauseKind := k, settleTimer := .stopped } := by
  simp only [enterPause, referenceChange_frame, leakPause_frame, pauseRunIn_frame]
  split <;> simp [setMode_controller]

theorem seen_supplyJudge (s : State) : (supplyJudge s).mode.seen = s.mode.seen := by
  unfold supplyJudge
  split
  · dsimp only
    split
    · rw [enterPause_controller]
      exact seen_latch _ _ s
    · exact seen_latch _ _ s
  · rfl

theorem seen_normalDecision (s : State) : (normalDecision s).mode.seen = s.mode.seen := by
  simp [normalDecision, seen_setMode]

theorem seen_decisionDue (c : TestContext) (s : State) : (decisionDue c s).mode.seen = s.mode.seen := by
  unfold decisionDue
  split
  · exact seen_normalDecision _
  · rfl

theorem seen_zeroAsk (c : TestContext) (s : State) : (zeroAsk c s).mode.seen = s.mode.seen := by
  unfold zeroAsk
  split
  · rfl
  · exact seen_decisionDue c s

theorem seen_enterZeroWait (c : TestContext) (s : State) : (enterZeroWait c s).mode.seen = s.mode.seen := by
  unfold enterZeroWait
  split
  · exact seen_zeroAsk c _
  · rfl

theorem seen_finishCheck (s : State) : (finishCheck s).mode.seen = s.mode.seen := by
  unfold finishCheck enterVentWait
  split
  · split
    · dsimp only
      split
      · split
        · exact seen_enterZeroWait _ s
        · rfl
      · exact seen_enterZeroWait _ s
    · rfl
  · rfl

theorem seen_resume (s : State) : (resume s).mode.seen = s.mode.seen := by
  have hmode : (referenceChange (setMode .run s)).mode.seen = s.mode.seen := by simp [seen_setMode]
  rw [resume, seen_supplyJudge, ← hmode]
  unfold resumeRunIn makeHeldRequest
  split
  · split
    · simp
    · simp
    · rfl
    · split
      · split
        · exact seen_zeroAsk _ _
        · exact seen_decisionDue _ _
        all_goals rfl
      · rfl
  · rfl

theorem seen_driveFaultAccept (d : DriveId) (s : State) : (driveFaultAccept d s).mode.seen = s.mode.seen := by
  unfold driveFaultAccept
  split
  · exact seen_latch _ _ s
  · rfl

theorem seen_supplyAccept (s : State) : (supplyAccept s).mode.seen = s.mode.seen := by
  unfold supplyAccept
  split
  · exact seen_resume s
  · exact seen_supplyJudge s

theorem seen_monitorsAccept (d : DriveId) (s : State) : (monitorsAccept d s).mode.seen = s.mode.seen := by
  have hboth : ∀ t, (supplyAccept (driveFaultAccept d t)).mode.seen = t.mode.seen ∧
      (driveFaultAccept d (supplyAccept t)).mode.seen = t.mode.seen := fun t => by
    simp [seen_supplyAccept, seen_driveFaultAccept]
  have hjudged : (judgeMonitors s).mode.seen = s.mode.seen := by simp
  rw [← hjudged]
  unfold monitorsAccept eitherOrder
  dsimp only
  split
  · split
    · exact (hboth _).1
    · exact (hboth _).2
  · exact (hboth _).1

theorem seen_runInAccept (d : DriveId) (s : State) : (runInAccept d s).mode.seen = s.mode.seen := by
  simp [runInAccept, seen_finishCheck]

/-- The Mode Controller's mark of a drive at standstill. -/
def markSeen (d : DriveId) (s : State) : State :=
  if driveAtRest s d then s.withMode { s.mode with seen := s.mode.seen.set d true } else s

theorem modeAccept_markSeen (d : DriveId) (s : State) : modeAccept d s = completionCheck (markSeen d s) := rfl

theorem seen_modeAccept (d : DriveId) (s : State) (e : DriveId) :
    (modeAccept d s).mode.seen.get e = true ↔ s.mode.seen.get e = true ∨ (e = d ∧ driveAtRest s d = true) := by
  have hkept := (kept_completionCheck (markSeen d s)).seen
  rw [modeAccept_markSeen, hkept, markSeen]
  cases hrest : driveAtRest s d with
  | false => simp
  | true =>
    rw [if_pos rfl, State.withMode_mode, PerDrive.get_set]
    by_cases he : e = d <;> simp [he]

/-! ## The Run-In and Mode Controllers (R43, R52, R66) -/

/-- The test is not in FINISH's wait for standstill. -/
def NotFinishing (s : State) : Prop := ∀ c, s.ctx = some c → c.phase ≠ .finish .standstillWait

/-- The test context after the checks of REVERSE. -/
def reversed (rest : Bool) (c : TestContext) : TestContext :=
  match c.phase with
  | .reverse .standstillWait =>
    if rest then { c with phase := .reverse .dwell, dwell := .running 300, standstill := c.standstill.hold } else c
  | .reverse .dwell =>
    if rest then c
    else { c with phase := .reverse .standstillWait, dwell := .stopped, standstill := c.standstill.resume }
  | .reverse .rampDown | .ramp | .hold | .finish _ => c

theorem reversed_waiting {c : TestContext} (h : c.phase = .reverse .standstillWait) (rest : Bool) :
    reversed rest c =
      if rest then { c with phase := .reverse .dwell, dwell := .running 300, standstill := c.standstill.hold } else c := by
  rw [reversed, h]

theorem reversed_dwelling {c : TestContext} (h : c.phase = .reverse .dwell) (rest : Bool) :
    reversed rest c = if rest then c
      else { c with phase := .reverse .standstillWait, dwell := .stopped, standstill := c.standstill.resume } := by
  rw [reversed, h]

theorem reversed_other {c : TestContext} (hwait : c.phase ≠ .reverse .standstillWait) (hdwell : c.phase ≠ .reverse .dwell)
    (rest : Bool) : reversed rest c = c := by
  unfold reversed
  split
  case h_1 hphase => exact absurd hphase hwait
  case h_2 hphase => exact absurd hphase hdwell
  all_goals rfl

theorem reversed_finishing {rest : Bool} {c : TestContext} (h : c.phase ≠ .finish .standstillWait) :
    (reversed rest c).phase ≠ .finish .standstillWait := by
  unfold reversed
  split
  · split
    · simp
    · exact h
  · split
    · exact h
    · simp
  all_goals exact h

theorem reversed_moving {c : TestContext} (h : c.phase.moving = true) (rest : Bool) : reversed rest c = c := by
  rcases (moving_iff c).1 h with hphase | hphase <;> exact reversed_other (by simp [hphase]) (by simp [hphase]) rest

theorem reversalCheck_ctx (s : State) : (reversalCheck s).ctx = s.ctx.map (reversed (atRest s)) := by
  unfold reversalCheck
  split
  case h_1 c hc =>
    rw [hc, Option.map_some]
    split
    case h_1 hphase =>
      rw [reversed_waiting hphase]
      split
      · rfl
      · exact hc
    case h_2 hphase =>
      rw [reversed_dwelling hphase]
      split
      · exact hc
      · rfl
    all_goals exact hc.trans (congrArg some (reversed_other (by simp [*]) (by simp [*]) _).symm)
  case h_2 hnone => rw [hnone]; rfl

theorem finishCheck_skips {s : State} (h : NotFinishing s) : finishCheck s = s := by
  unfold finishCheck
  split
  case h_1 c hc => rw [if_neg fun hboth => h c hc hboth.1]
  case h_2 => rfl

/-- No target waits for its condition: none is pending, or the mode is neither SETTLE nor STOP. -/
def Untargeted (s : State) : Prop :=
  s.mode.target = none ∨ s.mode.mode = .ready ∨ s.mode.mode = .run ∨ s.mode.mode = .pause

theorem targetComplete_untargeted {s : State} (h : Untargeted s) : targetComplete s = false := by
  unfold targetComplete
  rcases h with h | h | h | h <;> rw [h]
  cases s.mode.mode <;> rfl

/-- The Run-In and Mode Controllers at an acceptance. -/
def controllersAccept (d : DriveId) (s : State) : State := modeAccept d (runInAccept d s)

theorem controllersAccept_eq {s : State} (d : DriveId) (hfinish : NotFinishing s) (htarget : Untargeted s) :
    controllersAccept d s = markSeen d (reversalCheck (postTorque d s)) := by
  have hnot : NotFinishing (reversalCheck (postTorque d s)) := fun c hc => by
    rw [reversalCheck_ctx, Option.map_eq_some_iff] at hc
    obtain ⟨c', hc', rfl⟩ := hc
    exact reversed_finishing (hfinish c' (by simpa using hc'))
  have hmarked : Untargeted (markSeen d (reversalCheck (postTorque d s))) := by
    have hmode : (reversalCheck (postTorque d s)).mode = s.mode := by simp
    unfold markSeen
    split
    · rw [Untargeted, State.withMode_mode, hmode]
      exact htarget
    · rw [Untargeted, hmode]
      exact htarget
  rw [controllersAccept, modeAccept_markSeen, runInAccept, finishCheck_skips hnot,
    completionCheck_pending (targetComplete_untargeted hmarked)]

/-- What the two leave at such an acceptance. -/
structure ControllersQuiet (s t : State) : Prop where
  mode : ∃ x, t.mode = { s.mode with seen := x }
  link : t.link = s.link
  sup : t.sup = s.sup
  demand : t.demand = s.demand
  ctx : t.ctx = s.ctx.map (reversed (atRest s))

theorem controllersQuiet {s : State} (d : DriveId) (hfinish : NotFinishing s) (htarget : Untargeted s) :
    ControllersQuiet s (controllersAccept d s) := by
  have hrest : atRest (postTorque d s) = atRest s := atRest_of_link (by simp)
  have hctx : (reversalCheck (postTorque d s)).ctx = s.ctx.map (reversed (atRest s)) := by
    rw [reversalCheck_ctx, hrest]
    simp
  have hmode : (reversalCheck (postTorque d s)).mode = s.mode := by simp
  rw [controllersAccept_eq d hfinish htarget]
  unfold markSeen
  split
  · exact ⟨⟨_, by rw [State.withMode_mode, hmode]⟩, by simp, by simp, by simp, hctx⟩
  · exact ⟨⟨s.mode.seen, by simp⟩, by simp, by simp, by simp, hctx⟩

/-! ## The monitors (R75, R79 to R81) -/

theorem passAcceptance_eq (d : DriveId) (first : Bool) (s : State) :
    passAcceptance d first s =
      if first then controllersAccept d (monitorsAccept d s) else monitorsAccept d (controllersAccept d s) := rfl

theorem driveEnable_congr {s t : State} (hmode : t.mode.mode = s.mode.mode) (hguards : t.mode.guards = s.mode.guards) :
    driveEnable t = driveEnable s := by
  rw [driveEnable, driveEnable, hmode, hguards]

theorem driveFaultActs_iff (d : DriveId) (s : State) :
    driveFaultActs d s = true ↔ driveEnable s = true ∧ (held s d).state = .fault ∧ latchSet s .driveFault = false := by
  simp [driveFaultActs, and_assoc]

theorem supplyRecovers_iff (s : State) :
    supplyRecovers s = true ↔ supplyBad s = false ∧ s.mode.mode = .pause ∧ s.mode.pauseKind = .supply := by
  simp [supplyRecovers, and_assoc]

theorem judged_driveFaultActs (d : DriveId) (s : State) : driveFaultActs d (judgeMonitors s) = driveFaultActs d s := by
  have hlatch : latchSet (judgeMonitors s) .driveFault = latchSet s .driveFault := by
    rw [latchSet, latchSet, latchValue_congr (judgeMonitors_latches s)]
  rw [driveFaultActs, driveFaultActs, driveEnable_congr (s := s) (by simp) (by simp), hlatch, held, held]
  simp

theorem judged_supplyRecovers (s : State) : supplyRecovers (judgeMonitors s) = supplyRecovers s := by
  rw [supplyRecovers, supplyRecovers, supplyBad_congr (s := s) (by simp)]
  simp

/-- Without a DRIVE FAULT to report, SUPPLY alone acts. -/
theorem monitorsAccept_supply {d : DriveId} {s : State} (h : driveFaultActs d s = false) :
    monitorsAccept d s = supplyAccept (judgeMonitors s) := by
  have hnot := (judged_driveFaultActs d s).trans h
  simp only [monitorsAccept, eitherOrder, hnot, Bool.false_and, Bool.false_eq_true, if_false, driveFaultAccept]

theorem supplyAccept_judges {s : State} (h : supplyRecovers s = false) : supplyAccept s = supplyJudge s := by
  rw [supplyAccept, h]
  exact if_neg Bool.false_ne_true

theorem supplyAccept_recovers {s : State} (h : supplyRecovers s = true) : supplyAccept s = resume s := if_pos h

/-- SUPPLY's judgement of a bad bus state while DRIVE ENABLE is asserted. -/
theorem supplyJudge_bad {s : State} (henable : driveEnable s = true) (hbad : supplyBad s = true) :
    supplyJudge s =
      if s.mode.mode = .run then enterPause .supply (reported .supply (supplyDrive s) s)
      else reported .supply (supplyDrive s) s := by
  have hlatch : latch .supply (supplyDrive s) s = reported .supply (supplyDrive s) s := by
    rw [latch_eq]
    exact if_neg (by decide)
  have hmode : (reported .supply (supplyDrive s) s).mode = s.mode := by simp
  simp only [supplyJudge, henable, hbad, Bool.and_self, if_true, hlatch, hmode]

theorem enterPause_latches (k : PauseKind) (s : State) : (enterPause k s).sup.latches = s.sup.latches := by
  obtain ⟨-, hlatches, -⟩ := setMode_sup .pause s
  simp only [enterPause, referenceChange_latches, leakPause_frame, pauseRunIn_frame]
  split <;> simp [hlatches]

theorem enterPause_supplyTimer (s : State) : (enterPause .supply s).sup.supplyPause = .running 10000 := by
  simp only [enterPause, referenceChange, judgeMonitors_supply, if_true]
  simp [Config.supplyPauseMs, setFilter]

theorem enterPause_phase (k : PauseKind) (s : State) :
    (enterPause k s).ctx.map TestContext.phase = s.ctx.map TestContext.phase := by
  have hpause : ∀ t : State, (pauseRunIn t).ctx.map TestContext.phase = t.ctx.map TestContext.phase := fun t => by
    unfold pauseRunIn
    split
    case h_1 c hc =>
      split
      · rfl
      · simp [hc]
    case h_2 => rfl
  simp only [enterPause, referenceChange_frame, leakPause_frame, hpause]
  split <;> simp

/-- What SUPPLY's judgement leaves: the latches but SUPPLY's, DRIVE ENABLE, and the phase of the test. -/
theorem supplyJudge_spec (s : State) :
    (∀ k, k ≠ .supply → latchValue (supplyJudge s) k = latchValue s k) ∧
    driveEnable (supplyJudge s) = driveEnable s ∧ (NotFinishing s → NotFinishing (supplyJudge s)) := by
  by_cases hacts : (driveEnable s && supplyBad s) = true
  · obtain ⟨henable, hbad⟩ := Bool.and_eq_true_iff.1 hacts
    rw [supplyJudge_bad henable hbad]
    have hreported : ∀ k, k ≠ .supply → latchValue (reported .supply (supplyDrive s) s) k = latchValue s k :=
      fun k hk => by rw [latchValue_reported, if_neg hk]
    have hmode : (reported .supply (supplyDrive s) s).mode = s.mode := by simp
    have hctx : (reported .supply (supplyDrive s) s).ctx = s.ctx := by simp
    generalize reported .supply (supplyDrive s) s = u at *
    split
    case isTrue hrun =>
      refine ⟨fun k hk => by rw [latchValue_congr (enterPause_latches _ u), hreported k hk], ?_, fun hnot c hc hphase => ?_⟩
      · rw [driveEnable, driveEnable, enterPause_controller, hmode, hrun]
        rfl
      · have hsame := enterPause_phase .supply u
        rw [hc, hctx, Option.map_some] at hsame
        obtain ⟨c', hc', hphase'⟩ := Option.map_eq_some_iff.1 hsame.symm
        exact hnot c' hc' (hphase'.trans hphase)
    case isFalse =>
      exact ⟨hreported, driveEnable_congr (by rw [hmode]) (by rw [hmode]), fun hnot c hc => hnot c (hctx ▸ hc)⟩
  · rw [supplyJudge, if_neg hacts]
    exact ⟨fun _ _ => rfl, rfl, id⟩

theorem supplyJudge_disabled {s : State} (h : driveEnable s = false) : supplyJudge s = s := by
  rw [supplyJudge, h, Bool.false_and]
  exact if_neg Bool.false_ne_true

/-- What DRIVE FAULT leaves when it latches. -/
def FaultStopped (d : DriveId) (s : State) : Prop :=
  latchValue s .driveFault = some (driveNumber d) ∧ s.mode.mode = .stop ∧ s.mode.target = none ∧ s.ctx = none

theorem faultStopped_accept {d : DriveId} {s : State} (h : driveFaultActs d s = true) :
    FaultStopped d (driveFaultAccept d s) := by
  obtain ⟨henable, -, hclear⟩ := (driveFaultActs_iff d s).1 h
  obtain ⟨hactive, -⟩ := Bool.and_eq_true_iff.1 henable
  have hnone : latchValue s .driveFault = none := by simpa [latchSet] using hclear
  rw [driveFaultAccept, if_pos h, latch_stops rfl hactive, FaultStopped, latchValue_stopped, enterStopped_controller,
    enterStopped_ctx]
  simp [hnone]

/-- Whichever of the two is first (log entry 5), DRIVE FAULT stops the drives. -/
theorem monitorsAccept_fault {d : DriveId} {s : State} (h : driveFaultActs d s = true) (hnot : supplyRecovers s = false) :
    FaultStopped d (monitorsAccept d s) := by
  have hfaultFirst : ∀ t, driveFaultActs d t = true → FaultStopped d (supplyAccept (driveFaultAccept d t)) := fun t ht => by
    have hstopped := faultStopped_accept ht
    obtain ⟨-, hstop, -⟩ := id hstopped
    have hrecovers : supplyRecovers (driveFaultAccept d t) = false := by simp [supplyRecovers, hstop]
    have hdisabled : driveEnable (driveFaultAccept d t) = false := by simp [driveEnable, hstop, Mode.active]
    rwa [supplyAccept_judges hrecovers, supplyJudge_disabled hdisabled]
  have hsupplyFirst : ∀ t, driveFaultActs d t = true → supplyRecovers t = false →
      FaultStopped d (driveFaultAccept d (supplyAccept t)) := fun t ht hrecovers => by
    obtain ⟨hlatches, henable, -⟩ := supplyJudge_spec t
    have hheld : held (supplyJudge t) d = held t d := by simp [held]
    have hlatch : latchSet (supplyJudge t) .driveFault = latchSet t .driveFault := by
      rw [latchSet, latchSet, hlatches .driveFault (by decide)]
    refine faultStopped_accept ?_
    rw [supplyAccept_judges hrecovers, driveFaultActs, henable, hheld, hlatch]
    exact ht
  have hacts : driveFaultActs d (judgeMonitors s) = true := (judged_driveFaultActs d s).trans h
  have hrecovers : supplyRecovers (judgeMonitors s) = false := (judged_supplyRecovers s).trans hnot
  unfold monitorsAccept eitherOrder
  dsimp only
  split
  · split
    · exact hfaultFirst _ hacts
    · exact hsupplyFirst _ hacts hrecovers
  · exact hfaultFirst _ hacts

end Sys2Proof.Machine
end


section
/-! PROOFS. What a status message does (spec/04 4.4), whichever side takes the acceptance first (log entries 4, 5): O16. -/

namespace Sys2Proof.Machine

/-! ## The two sides of an acceptance -/

section
variable {s t : State} (h : ControllersQuiet s t)
include h

theorem ControllersQuiet.modes :
    t.mode.mode = s.mode.mode ∧ t.mode.pauseKind = s.mode.pauseKind ∧ t.mode.target = s.mode.target ∧
    t.mode.guards = s.mode.guards := by
  obtain ⟨x, hx⟩ := h.mode
  rw [hx]
  exact ⟨rfl, rfl, rfl, rfl⟩

theorem ControllersQuiet.latch (k : LatchKind) : latchValue t k = latchValue s k := latchValue_congr (by rw [h.sup]) k

theorem ControllersQuiet.enable : driveEnable t = driveEnable s := by
  obtain ⟨hmode, -, -, hguards⟩ := h.modes
  exact driveEnable_congr hmode hguards

theorem ControllersQuiet.faultActs (d : DriveId) : driveFaultActs d t = driveFaultActs d s := by
  rw [driveFaultActs, driveFaultActs, h.enable, held, held, h.link, latchSet, latchSet, h.latch]

theorem ControllersQuiet.supply : supplyBad t = supplyBad s ∧ supplyRecovers t = supplyRecovers s := by
  obtain ⟨hmode, hkind, -, -⟩ := h.modes
  have hbad : supplyBad t = supplyBad s := supplyBad_congr h.link
  exact ⟨hbad, by rw [supplyRecovers, supplyRecovers, hbad, hmode, hkind]⟩

end

theorem judged_notFinishing {s : State} (h : NotFinishing s) : NotFinishing (judgeMonitors s) :=
  fun c hc => h c (by simpa using hc)

theorem judged_untargeted {s : State} (h : Untargeted s) : Untargeted (judgeMonitors s) := by
  simpa [Untargeted] using h

/-- While DRIVE ENABLE is asserted outside SETTLE, no target can be reached. -/
theorem untargeted_of_enabled {s : State} (henable : driveEnable s = true) (hmode : s.mode.mode ≠ .settle) : Untargeted s := by
  obtain ⟨hactive, -⟩ := Bool.and_eq_true_iff.1 henable
  cases hm : s.mode.mode with
  | ready => exact .inr (.inl hm)
  | run => exact .inr (.inr (.inl hm))
  | pause => exact .inr (.inr (.inr hm))
  | settle => exact absurd hm hmode
  | idle | stop | halt => rw [hm] at hactive; cases hactive

theorem seen_passAcceptance (d : DriveId) (first : Bool) (s : State) (e : DriveId) :
    (passAcceptance d first s).mode.seen.get e = true ↔
      s.mode.seen.get e = true ∨ (e = d ∧ driveAtRest s d = true) := by
  have hrest : ∀ t : State, t.link = s.link → driveAtRest t d = driveAtRest s d := fun t ht => by
    rw [driveAtRest, driveAtRest, held, held, ht]
  rw [passAcceptance_eq]
  split
  · rw [controllersAccept, seen_modeAccept, seen_runInAccept, seen_monitorsAccept, hrest _ (by simp)]
  · rw [seen_monitorsAccept, controllersAccept, seen_modeAccept, seen_runInAccept, hrest _ (by simp)]

/-! ## A reversal (R43) -/

theorem passAcceptance_quiet {d : DriveId} {s : State} (first : Bool) (hfinish : NotFinishing s) (htarget : Untargeted s)
    (hfault : driveFaultActs d s = false) (hbad : supplyBad s = false) (hrecovers : supplyRecovers s = false) :
    (passAcceptance d first s).ctx = s.ctx.map (reversed (atRest s)) := by
  have hmonitors : ∀ t, driveFaultActs d t = false → supplyBad t = false → supplyRecovers t = false →
      monitorsAccept d t = judgeMonitors t := fun t hfault hbad hrecovers => by
    rw [monitorsAccept_supply hfault, supplyAccept_judges ((judged_supplyRecovers t).trans hrecovers),
      supplyJudge_good ((supplyBad_congr (by simp)).trans hbad)]
  rw [passAcceptance_eq]
  split
  · rw [hmonitors s hfault hbad hrecovers,
      (controllersQuiet d (judged_notFinishing hfinish) (judged_untargeted htarget)).ctx,
      atRest_of_link (s := s) (by simp), judgeMonitors_ctx]
  · have hquiet := controllersQuiet d hfinish htarget
    obtain ⟨hbad', hrecovers'⟩ := hquiet.supply
    rw [hmonitors _ ((hquiet.faultActs d).trans hfault) (hbad'.trans hbad) (hrecovers'.trans hrecovers), judgeMonitors_ctx,
      hquiet.ctx]

/-! ## DRIVE FAULT (R75) -/

theorem passAcceptance_fault {d : DriveId} {s : State} (first : Bool) (hfinish : NotFinishing s) (htarget : Untargeted s)
    (hfault : driveFaultActs d s = true) (hrecovers : supplyRecovers s = false) :
    latchValue (passAcceptance d first s) .driveFault = some (driveNumber d) ∧
    (passAcceptance d first s).mode.mode = .stop ∧ (passAcceptance d first s).ctx = none := by
  rw [passAcceptance_eq]
  split
  · obtain ⟨hvalue, hstop, hdropped, hnone⟩ := monitorsAccept_fault hfault hrecovers
    have hquiet := controllersQuiet d (fun c hc => by rw [hnone] at hc; cases hc) (.inl hdropped)
    obtain ⟨hmode, -⟩ := hquiet.modes
    exact ⟨(hquiet.latch _).trans hvalue, hmode.trans hstop, by rw [hquiet.ctx, hnone]; rfl⟩
  · have hquiet := controllersQuiet d hfinish htarget
    obtain ⟨-, hrecovers'⟩ := hquiet.supply
    obtain ⟨hvalue, hstop, -, hnone⟩ :=
      monitorsAccept_fault ((hquiet.faultActs d).trans hfault) (hrecovers'.trans hrecovers)
    exact ⟨hvalue, hstop, hnone⟩

/-! ## SUPPLY (R79, R80) -/

/-- What SUPPLY's judgement of a bad bus state does: its latch, and a supply pause from RUN. -/
def SupplyReported (v : Nat) (s t : State) : Prop :=
  latchValue t .supply = some ((latchValue s .supply).getD v) ∧
  (∀ k, k ≠ .supply → latchValue t k = latchValue s k) ∧
  (s.mode.mode = .run → t.mode.mode = .pause ∧ t.mode.pauseKind = .supply ∧ t.sup.supplyPause = .running 10000) ∧
  (s.mode.mode ≠ .run → t.mode.mode = s.mode.mode ∧ t.mode.pauseKind = s.mode.pauseKind ∧
    t.sup.supplyPause = s.sup.supplyPause)

theorem supplyReported_judge {s : State} (henable : driveEnable s = true) (hbad : supplyBad s = true) :
    SupplyReported (supplyDrive s) s (supplyJudge s) := by
  rw [supplyJudge_bad henable hbad]
  have hvalue := fun k => latchValue_reported .supply k (supplyDrive s) s
  have hmode : (reported .supply (supplyDrive s) s).mode = s.mode := by simp
  have hpause : (reported .supply (supplyDrive s) s).sup.supplyPause = s.sup.supplyPause := by rw [reported_sup]
  generalize reported .supply (supplyDrive s) s = u at *
  have hpaused : ∀ k, latchValue (enterPause .supply u) k = latchValue u k := latchValue_congr (enterPause_latches _ u)
  split
  case isTrue hrun =>
    refine ⟨by rw [hpaused, hvalue, if_pos rfl], fun k hk => by rw [hpaused, hvalue, if_neg hk],
      fun _ => ⟨by rw [enterPause_controller], by rw [enterPause_controller], enterPause_supplyTimer u⟩,
      fun h => absurd hrun h⟩
  case isFalse hnot =>
    exact ⟨by rw [hvalue, if_pos rfl], fun k hk => by rw [hvalue, if_neg hk], fun h => absurd h hnot,
      fun _ => ⟨by rw [hmode], by rw [hmode], hpause⟩⟩

theorem supplyDrive_congr {s t : State} (h : t.link = s.link) : supplyDrive t = supplyDrive s := by
  simp [supplyDrive, lowestDrive, held, h]

theorem monitorsAccept_reports {d : DriveId} {s : State} (hfault : driveFaultActs d s = false)
    (henable : driveEnable s = true) (hbad : supplyBad s = true) :
    SupplyReported (supplyDrive s) s (monitorsAccept d s) ∧ (NotFinishing s → NotFinishing (monitorsAccept d s)) := by
  have hbad' : supplyBad (judgeMonitors s) = true := (supplyBad_congr (by simp)).trans hbad
  have henable' : driveEnable (judgeMonitors s) = true := (driveEnable_congr (by simp) (by simp)).trans henable
  have hrecovers : supplyRecovers (judgeMonitors s) = false := by rw [supplyRecovers, hbad']; rfl
  have hreported := supplyReported_judge henable' hbad'
  obtain ⟨-, -, hfinish⟩ := supplyJudge_spec (judgeMonitors s)
  have hlatches : ∀ k, latchValue (judgeMonitors s) k = latchValue s k := latchValue_congr (judgeMonitors_latches s)
  have hmode : (judgeMonitors s).mode = s.mode := by simp
  rw [monitorsAccept_supply hfault, supplyAccept_judges hrecovers]
  rw [SupplyReported, supplyDrive_congr (s := s) (by simp), hmode, judgeMonitors_supply] at hreported
  simp only [hlatches] at hreported
  exact ⟨hreported, fun h => hfinish (judged_notFinishing h)⟩

theorem passAcceptance_supply {d : DriveId} {s : State} (first : Bool) (hfinish : NotFinishing s)
    (hsettle : s.mode.mode ≠ .settle) (hfault : driveFaultActs d s = false) (henable : driveEnable s = true)
    (hbad : supplyBad s = true) : SupplyReported (supplyDrive s) s (passAcceptance d first s) := by
  have htarget := untargeted_of_enabled henable hsettle
  rw [passAcceptance_eq]
  split
  · obtain ⟨hreported, hfinish'⟩ := monitorsAccept_reports hfault henable hbad
    generalize monitorsAccept d s = v at *
    obtain ⟨hvalue, hothers, hrun, hnotRun⟩ := hreported
    have htarget' : Untargeted v := by
      by_cases hr : s.mode.mode = .run
      · obtain ⟨hpause, -⟩ := hrun hr
        exact .inr (.inr (.inr hpause))
      · obtain ⟨hsame, -⟩ := hnotRun hr
        cases hm : s.mode.mode with
        | ready => exact .inr (.inl (hsame.trans hm))
        | pause => exact .inr (.inr (.inr (hsame.trans hm)))
        | run => exact absurd hm hr
        | settle => exact absurd hm hsettle
        | idle | stop | halt => simp [driveEnable, hm, Mode.active] at henable
    have hquiet := controllersQuiet d (hfinish' hfinish) htarget'
    obtain ⟨hmode, hkind, -, -⟩ := hquiet.modes
    rw [SupplyReported, hmode, hkind, hquiet.sup]
    simp only [hquiet.latch]
    exact ⟨hvalue, hothers, hrun, hnotRun⟩
  · have hquiet := controllersQuiet d hfinish htarget
    obtain ⟨hbad', -⟩ := hquiet.supply
    obtain ⟨hreported, -⟩ :=
      monitorsAccept_reports ((hquiet.faultActs d).trans hfault) (hquiet.enable.trans henable) (hbad'.trans hbad)
    obtain ⟨hmode, hkind, -, -⟩ := hquiet.modes
    rw [SupplyReported, supplyDrive_congr hquiet.link, hmode, hkind, hquiet.sup] at hreported
    simp only [hquiet.latch] at hreported
    exact hreported

/-! ## The supply recovery (R81) -/

/-- A supply pause has ended: RUN with the resume ramp, and the latches as they were. -/
def Recovered (c : TestContext) (s t : State) : Prop :=
  t.mode.mode = .run ∧ t.mode.pauseKind = .none ∧ t.sup.supplyPause = .stopped ∧ t.sup.latches = s.sup.latches ∧
    t.ctx = some { c with phase := .ramp, resumeRamp := true } ∧ t.demand = rampDemand c s.demand

theorem referenceChange_supply (s : State) : (referenceChange s).sup.supplyPause = s.sup.supplyPause :=
  judgeMonitors_supply _

theorem recovered_resume {s : State} {c : TestContext} (hc : s.ctx = some c) (hphase : c.phase.moving = true)
    (htime : rampTime c.copy c.step ≠ 0) (hbad : supplyBad s = false) (hmode : s.mode.mode = .pause) :
    Recovered c s (resume s) := by
  obtain ⟨-, hlatches, hsupply⟩ := setMode_sup .run s
  have hcontroller := setMode_controller .run s
  rw [resume_moving hc hphase htime hbad, Recovered, referenceChange_supply, referenceChange_latches]
  simp only [referenceChange_frame, State.withDemand_mode, State.withDemand_ctx, State.withDemand_demand,
    State.withDemand_sup, State.withCtx_mode, State.withCtx_ctx, State.withCtx_sup, openQuiet_frame, resuming,
    referenceChange_supply, referenceChange_latches, hlatches, hsupply, hcontroller]
  exact ⟨trivial, rfl, if_pos ⟨hmode, by decide⟩, trivial, trivial, trivial⟩

theorem monitorsAccept_recovers {d : DriveId} {s : State} {c : TestContext} (hfault : driveFaultActs d s = false)
    (hrecovers : supplyRecovers s = true) (hc : s.ctx = some c) (hphase : c.phase.moving = true)
    (htime : rampTime c.copy c.step ≠ 0) : Recovered c s (monitorsAccept d s) := by
  obtain ⟨hbad, hmode, -⟩ := (supplyRecovers_iff s).1 hrecovers
  have hresumed := recovered_resume (s := judgeMonitors s) (by simpa using hc) hphase htime
    ((supplyBad_congr (by simp)).trans hbad) (by simpa using hmode)
  rw [Recovered, judgeMonitors_latches] at hresumed
  have hdemand : (judgeMonitors s).demand = s.demand := by simp
  rw [hdemand] at hresumed
  rw [monitorsAccept_supply hfault, supplyAccept_recovers ((judged_supplyRecovers s).trans hrecovers)]
  exact hresumed

theorem passAcceptance_recovers {d : DriveId} {s : State} {c : TestContext} (first : Bool)
    (hfault : driveFaultActs d s = false) (hrecovers : supplyRecovers s = true) (hc : s.ctx = some c)
    (hphase : c.phase.moving = true) (htime : rampTime c.copy c.step ≠ 0) : Recovered c s (passAcceptance d first s) := by
  obtain ⟨hbad, hmode, hkind⟩ := (supplyRecovers_iff s).1 hrecovers
  rw [passAcceptance_eq]
  split
  · obtain ⟨hrun, hnoKind, htimer, hlatches, hctx, hdemand⟩ := monitorsAccept_recovers hfault hrecovers hc hphase htime
    have hquiet := controllersQuiet (s := monitorsAccept d s) d
      (fun c' hc' => by rw [hctx] at hc'; cases hc'; simp) (.inr (.inr (.inl hrun)))
    obtain ⟨hmode', hkind', -, -⟩ := hquiet.modes
    rw [Recovered, hmode', hkind', hquiet.sup, hquiet.ctx, hquiet.demand, hctx, Option.map_some, reversed_moving rfl]
    exact ⟨hrun, hnoKind, htimer, hlatches, rfl, hdemand⟩
  · have hfinish : NotFinishing s := fun c' hc' => by
      rw [hc] at hc'
      cases hc'
      rcases (moving_iff c).1 hphase with h | h <;> simp [h]
    have hquiet := controllersQuiet d hfinish (.inr (.inr (.inr hmode)))
    obtain ⟨-, hrecovers'⟩ := hquiet.supply
    have hctx : (controllersAccept d s).ctx = some c := by rw [hquiet.ctx, hc, Option.map_some, reversed_moving hphase]
    have hresumed := monitorsAccept_recovers ((hquiet.faultActs d).trans hfault) (hrecovers'.trans hrecovers) hctx hphase htime
    rw [Recovered, hquiet.sup, hquiet.demand] at hresumed
    exact hresumed

/-! ## The message -/

theorem held_acceptStatus (d : DriveId) (h : DriveStatus) (s : State) (e : DriveId) :
    held (acceptStatus d h s) e = if e = d then h else held s e := by
  simp only [held, acceptStatus, State.withLink_link, PerDrive.get_set]
  split <;> rfl

theorem driveAtRest_iff (s : State) (d : DriveId) : driveAtRest s d = true ↔ (held s d).speed.natAbs ≤ 10 :=
  decide_eq_true_iff

theorem atRest_iff (s : State) : atRest s = true ↔ ∀ e, (held s e).speed.natAbs ≤ 10 := by
  have hall : (∀ e, (held s e).speed.natAbs ≤ 10) ↔ (held s .input).speed.natAbs ≤ 10 ∧
      (held s .left).speed.natAbs ≤ 10 ∧ (held s .right).speed.natAbs ≤ 10 :=
    ⟨fun h => ⟨h _, h _, h _⟩, fun ⟨hinput, hleft, hright⟩ e => by cases e <;> assumption⟩
  rw [hall]
  simp only [atRest, Bool.and_eq_true, driveAtRest_iff, and_assoc]

theorem supplyBad_iff (s : State) : supplyBad s = true ↔ ∃ e, (held s e).bus ≠ .normal := by
  rw [supplyBad, lowestDrive, List.find?_isSome]
  constructor
  · rintro ⟨e, -, he⟩
    exact ⟨e, by simpa using he⟩
  · rintro ⟨e, he⟩
    exact ⟨e, by cases e <;> decide, by simpa using he⟩

theorem supplyDrive_lowest {s : State} {v : DriveId} (hv : (held s v).bus ≠ .normal)
    (hlow : ∀ e, driveNumber e < driveNumber v → (held s e).bus = .normal) : supplyDrive s = driveNumber v := by
  have hfind : lowestDrive s (fun h => h.bus != .normal) = some v := by
    have hgood : ∀ e, driveNumber e < driveNumber v → ((held s e).bus != .normal) = false := fun e he => by simp [hlow e he]
    have hbad : ((held s v).bus != .normal) = true := by simpa using hv
    unfold lowestDrive allDrives
    cases v with
    | input => simp [hbad]
    | left => simp [hbad, hgood .input (by decide)]
    | right => simp [hbad, hgood .input (by decide), hgood .left (by decide)]
  rw [supplyDrive, hfind]
  rfl

theorem passAcceptance_frame (d : DriveId) (first : Bool) (s : State) :
    (passAcceptance d first s).store = s.store ∧ (passAcceptance d first s).link = s.link ∧
    (passAcceptance d first s).ports = s.ports ∧ (passAcceptance d first s).pending = s.pending := by
  rw [passAcceptance_eq]
  split <;> simp [controllersAccept]

/-- Settles O16: a message that is not read changes nothing, and one that is read acts the same from both sides. -/
theorem statusJudged : Obligations.StatusJudged := by
  refine ⟨fun bytes order s h => ?_, fun d st bus speed torque order s hst hbus hslow hshigh htlow hthigh => ?_⟩
  · have hexec : exec (.statusMessage bytes order) s = .next (statusMessage bytes order s) := rfl
    rw [hexec, statusMessage, readStatus_none h]
  · intro rest bad finishing
    obtain ⟨x, hx, hfaultState⟩ := driveStateOfCode_some hst
    obtain ⟨y, hy, hnormal⟩ := busStateOfCode_some hbus
    have hread := readStatus_formStatus d s.link.cycle hx hy hst hbus hslow hshigh htlow hthigh
    have hexec : exec (.statusMessage (formStatus d s.link.cycle st bus speed torque) order) s =
        .next (passAcceptance d order (acceptStatus d ⟨x, speed, torque, y⟩ s)) := by
      have hmessage : exec (.statusMessage (formStatus d s.link.cycle st bus speed torque) order) s =
          .next (statusMessage (formStatus d s.link.cycle st bus speed torque) order s) := rfl
      rw [hmessage, statusMessage, hread]
    have hlink : (acceptStatus d ⟨x, speed, torque, y⟩ s).link =
        { s.link with drives := s.link.drives.set d ⟨⟨x, speed, torque, y⟩, true, true, 0⟩ } := rfl
    have hheld := held_acceptStatus d ⟨x, speed, torque, y⟩ s
    have hmode : (acceptStatus d ⟨x, speed, torque, y⟩ s).mode = s.mode := rfl
    have hctx : (acceptStatus d ⟨x, speed, torque, y⟩ s).ctx = s.ctx := rfl
    have hsup : (acceptStatus d ⟨x, speed, torque, y⟩ s).sup = s.sup := rfl
    have hdemand : (acceptStatus d ⟨x, speed, torque, y⟩ s).demand = s.demand := rfl
    have hstore : (acceptStatus d ⟨x, speed, torque, y⟩ s).store = s.store := rfl
    have hports : (acceptStatus d ⟨x, speed, torque, y⟩ s).ports = s.ports := rfl
    have hpending : (acceptStatus d ⟨x, speed, torque, y⟩ s).pending = s.pending := rfl
    generalize acceptStatus d ⟨x, speed, torque, y⟩ s = u at *
    have hrest : atRest u = true ↔ rest := by
      rw [atRest_iff]
      refine forall_congr' fun e => ?_
      rw [hheld]
      by_cases he : e = d <;> simp [he]
    have hbad : ∀ e, (held u e).bus ≠ .normal ↔ bad e := fun e => by
      rw [hheld]
      by_cases he : e = d
      · simp only [bad, if_pos he, ne_eq, hnormal]
      · simp only [bad, if_neg he]
    have hgood : (∀ e, ¬bad e) → supplyBad u = false := fun h => by
      rw [Bool.eq_false_iff, Ne, supplyBad_iff]
      rintro ⟨e, he⟩
      exact h e ((hbad e).1 he)
    have hlatch : ∀ k, latchValue u k = latchValue s k := latchValue_congr (by rw [hsup])
    have henable : driveEnable u = driveEnable s := driveEnable_congr (by rw [hmode]) (by rw [hmode])
    have hstate : (held u d).state = x := by rw [hheld, if_pos rfl]
    have hnoFault : st ≠ 3 → driveFaultActs d u = false := fun h => by
      rw [Bool.eq_false_iff, Ne, driveFaultActs_iff, hstate, hfaultState]
      exact fun hacts => h hacts.2.1
    have hfinish : ¬finishing → NotFinishing u := fun h c hc hphase => h ⟨c, hctx ▸ hc, hphase⟩
    obtain ⟨htstore, htlink, htports, htpending⟩ := passAcceptance_frame d order u
    refine ⟨_, x, y, hexec, hx, hy, htlink.trans hlink, htstore.trans hstore, htports.trans hports,
      htpending.trans hpending, fun e => ?_, fun c hc hm hne hall => ?_, fun hst hon hsettle hfin hclear hsupply => ?_,
      fun hne hon hsettle hfin v hv hlow => ?_, fun c hc hpause hkind hne hall hphase htime => ?_⟩
    · rw [seen_passAcceptance, hmode, driveAtRest_iff, hheld, if_pos rfl]
    · have hquiet : c.phase ≠ .finish .standstillWait → (passAcceptance d order u).ctx = some (reversed (atRest u) c) :=
        fun hphase => by
          have hrecovers : supplyRecovers u = false := by
            rw [Bool.eq_false_iff, Ne, supplyRecovers_iff, hmode]
            rintro ⟨-, hpause, hkind⟩
            rcases hm with hrun | ⟨-, hoperator⟩
            · rw [hrun] at hpause; cases hpause
            · rw [hoperator] at hkind; cases hkind
          have htarget : Untargeted u := by
            rw [Untargeted, hmode]
            rcases hm with hrun | ⟨hpause, -⟩
            · exact .inr (.inr (.inl hrun))
            · exact .inr (.inr (.inr hpause))
          have hnot : NotFinishing u := fun c' hc' => by
            rw [hctx, hc] at hc'
            cases hc'
            exact hphase
          rw [passAcceptance_quiet order hnot htarget (hnoFault hne) (hgood hall) hrecovers, hctx, hc]
          rfl
      have hstill : rest → atRest u = true := hrest.2
      have hmoves : ¬rest → atRest u = false := fun h => by rw [Bool.eq_false_iff, Ne, hrest]; exact h
      refine ⟨fun hphase => ⟨fun h => ?_, fun h left hleft => ?_⟩, fun hphase => ⟨fun h => ?_, fun h left hleft => ?_⟩⟩
      · rw [hquiet (by simp [hphase]), reversed_waiting hphase, hmoves h]
        rfl
      · rw [hquiet (by simp [hphase]), reversed_waiting hphase, hstill h, hleft]
        rfl
      · rw [hquiet (by simp [hphase]), reversed_dwelling hphase, hstill h]
        rfl
      · rw [hquiet (by simp [hphase]), reversed_dwelling hphase, hmoves h, hleft]
        rfl
    · have hacts : driveFaultActs d u = true := by
        rw [driveFaultActs_iff, henable, hstate, hfaultState, latchSet, hlatch]
        exact ⟨hon, hst, hclear⟩
      have hrecovers : supplyRecovers u = false := by
        rw [Bool.eq_false_iff, Ne, supplyRecovers_iff, hmode]
        rintro ⟨hnoBad, -, hkind⟩
        obtain ⟨e, he⟩ := hsupply hkind
        rw [Bool.eq_false_iff, Ne, supplyBad_iff] at hnoBad
        exact hnoBad ⟨e, (hbad e).2 he⟩
      exact passAcceptance_fault order (hfinish hfin)
        (untargeted_of_enabled (henable.trans hon) (by rw [hmode]; exact hsettle)) hacts hrecovers
    · have hbadU : supplyBad u = true := (supplyBad_iff u).2 ⟨v, (hbad v).2 hv⟩
      have hdrive : supplyDrive u = driveNumber v :=
        supplyDrive_lowest ((hbad v).2 hv) fun e he => by
          by_contra hnot
          exact hlow e he ((hbad e).1 hnot)
      have hreported := passAcceptance_supply order (hfinish hfin) (by rw [hmode]; exact hsettle) (hnoFault hne)
        (henable.trans hon) hbadU
      rw [SupplyReported, hdrive, hmode, hsup] at hreported
      simp only [hlatch] at hreported
      exact hreported
    · have hrecovers : supplyRecovers u = true := by
        rw [supplyRecovers_iff, hmode]
        exact ⟨hgood hall, hpause, hkind⟩
      have hrecovered := passAcceptance_recovers order (hnoFault hne) hrecovers (hctx.trans hc) hphase htime
      rw [Recovered, hsup, hdemand] at hrecovered
      exact hrecovered

end Sys2Proof.Machine
end


section
/-! PROOFS. The judgement of a check (spec/08): O34. -/

namespace Sys2Proof.Machine

/-! ## The records that a check judges (R128, R130, R131) -/

/-- The records after a judgement: the current one takes the status, and every UNCHECKED one. -/
def recordsJudged (k : CheckKind) (z : ZeroStatus) (s : State) : State :=
  modifyAll (judgeStatus z) (setCurrent (currentRecord k s) z s)

theorem recordAt_setCurrent (x : Option (Fin 16)) (z : ZeroStatus) (s : State) (j : Fin 16) :
    recordAt (setCurrent x z s) j = if x = some j then (recordAt s j).map (setZeroStatus z) else recordAt s j := by
  cases x with
  | none => rfl
  | some i => simp only [setCurrent, recordAt_modifyRecord, Option.some.injEq, eq_comm (a := i)]

theorem recordAt_recordsJudged (k : CheckKind) (z : ZeroStatus) (s : State) (j : Fin 16) :
    recordAt (recordsJudged k z s) j =
      if currentRecord k s = some j then (recordAt s j).map fun r => judgeStatus z (setZeroStatus z r)
      else (recordAt s j).map (judgeStatus z) := by
  rw [recordsJudged, recordAt_modifyAll, recordAt_setCurrent]
  split
  · rw [Option.map_map]
    rfl
  · rfl

theorem judgeStatus_state (z : ZeroStatus) (r : Record) : (judgeStatus z r).state = r.state := by
  unfold judgeStatus
  split <;> rfl

theorem judgeStatus_judged {z : ZeroStatus} (hz : z ≠ .unchecked) (r : Record) : (judgeStatus z r).zero ≠ some .unchecked := by
  unfold judgeStatus
  split
  · exact fun h => hz (Option.some.inj h)
  · assumption

/-- A record that has a zero status takes the judgement's, whatever it was. -/
theorem judgeStatus_setZeroStatus {z x : ZeroStatus} {r : Record} (hx : r.zero = some x) :
    judgeStatus z (setZeroStatus z r) = { r with zero := some z } := by
  have hset : setZeroStatus z r = { r with zero := some z } := by rw [setZeroStatus, hx]; rfl
  rw [hset, judgeStatus]
  split <;> rfl

/-- No record is UNCHECKED. -/
def AllJudged (s : State) : Prop := ∀ i r, recordAt s i = some r → r.zero ≠ some .unchecked

theorem AllJudged.of_queue {s t : State} (h : AllJudged s) (hqueue : t.queue = s.queue) : AllJudged t := fun i r hr =>
  h i r (by rwa [recordAt_congr hqueue] at hr)

theorem allJudged_recordsJudged (k : CheckKind) {z : ZeroStatus} (hz : z ≠ .unchecked) (s : State) :
    AllJudged (recordsJudged k z s) := fun i r hr => by
  rw [recordsJudged, recordAt_modifyAll] at hr
  obtain ⟨x, -, rfl⟩ := Option.map_eq_some_iff.1 hr
  exact judgeStatus_judged hz x

theorem onTestSlot_of_states {s t : State}
    (h : ∀ i, (recordAt t i).map Record.state = (recordAt s i).map Record.state) : onTestSlot t = onTestSlot s := by
  have hslots : slotHas t (fun r => r.state == .onTest) = slotHas s (fun r => r.state == .onTest) := funext fun i => by
    have hi := h i
    unfold slotHas
    cases ht : recordAt t i <;> cases hs : recordAt s i <;> simp_all
  rw [onTestSlot, onTestSlot, hslots]

theorem onTestSlot_recordsJudged (k : CheckKind) (z : ZeroStatus) (s : State) :
    onTestSlot (recordsJudged k z s) = onTestSlot s := onTestSlot_of_states fun i => by
  rw [recordAt_recordsJudged]
  split
  · rw [Option.map_map]
    exact congrFun (congrArg Option.map (funext fun r => judgeStatus_state z (setZeroStatus z r))) _
  · rw [Option.map_map]
    exact congrFun (congrArg Option.map (funext fun r => judgeStatus_state z r)) _

@[simp] theorem recordsJudged_frame (k : CheckKind) (z : ZeroStatus) (s : State) :
    (recordsJudged k z s).mode = s.mode ∧ (recordsJudged k z s).ctx = s.ctx ∧ (recordsJudged k z s).demand = s.demand ∧
    (recordsJudged k z s).leak = s.leak ∧ (recordsJudged k z s).conv = s.conv ∧ (recordsJudged k z s).zero = s.zero ∧
    (recordsJudged k z s).events = s.events := by
  simp [recordsJudged]

/-! ## Ends of a test with every record judged -/

/-- With no check and no UNCHECKED record a decision leaves the Zero Check as it is and raises its VERDICT alone. -/
theorem endTest_judged {s : State} (hcheck : s.zero.check = none) (hall : AllJudged s) :
    (endTest s).zero = s.zero ∧ ∀ i, i ≠ 4 → MarksKept i s (endTest s) := by
  have hcontext : ∀ u : State, u.zero = s.zero → (endContext u).zero = s.zero := fun u hu => (endContext_zero u).trans hu
  unfold endTest
  split
  next i _ =>
    split
    next r hr =>
      have hcount : ∀ z, countUnchecked r z = z := fun z => if_neg (hall i r hr)
      dsimp only
      rw [hcount, abandonCheckOf_noCheck (by simpa using hcheck)]
      exact ⟨hcontext _ (by simp), fun j hj => .trans (.of_events (by simp))
        (.trans (marksKept_raise hj _) (.of_events (endContext_events _)))⟩
    next => exact ⟨hcontext s rfl, fun j _ => .of_events (endContext_events s)⟩
  next => exact ⟨hcontext s rfl, fun j _ => .of_events (endContext_events s)⟩

theorem enterStopped_judged {s : State} (hcheck : s.zero.check = none) (hall : AllJudged s) (m : Mode) :
    (enterStopped m s).zero = s.zero ∧ ∀ i, i ≠ 4 → i ≠ 6 → MarksKept i s (enterStopped m s) := by
  have hdropped : (dropTarget (leakToVent s)).zero = s.zero := by simp
  obtain ⟨hended, hmarks⟩ := endTest_judged (s := dropTarget (leakToVent s)) (by rw [hdropped, hcheck])
    (hall.of_queue (by simp))
  obtain ⟨hset, hevents⟩ := setMode_zero (s := endTest (dropTarget (leakToVent s))) (by rw [hended, hdropped, hcheck]) m
  refine ⟨?_, fun i hverdict hmode => ?_⟩
  · simp only [enterStopped, judgeMonitors_frame, State.withDemand_zero, hset, hended, hdropped]
  · have hleak : MarksKept i s (leakToVent s) := .of_events (by simp)
    exact hleak.trans ((marksKept_dropTarget hmode _).trans ((hmarks i hverdict).trans
      ((MarksKept.of_events hevents).trans (.of_events (judgeMonitors_events _)))))

theorem normalDecision_judged {s : State} (hcheck : s.zero.check = none) (hall : AllJudged s) :
    (normalDecision s).zero = s.zero ∧ ∀ i, i ≠ 4 → MarksKept i s (normalDecision s) := by
  obtain ⟨hended, hmarks⟩ := endTest_judged hcheck hall
  obtain ⟨hset, hevents⟩ := setMode_zero (s := endTest s) (by rw [hended, hcheck]) .ready
  refine ⟨?_, fun i hverdict => ?_⟩
  · simp only [normalDecision, judgeMonitors_frame, hset, hended]
  · exact (hmarks i hverdict).trans ((MarksKept.of_events hevents).trans (.of_events (judgeMonitors_events _)))

/-! ## A good check (R130) -/

/-- A good check before its answer to the Run-In Controller. -/
def goodJudged (k : CheckKind) (average : Nat) (s : State) : State :=
  raise (.zero k .good average) ((recordsJudged k .checked s).withZero
    { (recordsJudged k .checked s).zero with unchecked := 0, forced := false })

theorem goodCheck_eq (k : CheckKind) (average : Nat) (s : State) :
    goodCheck k average s = answerOf k (goodJudged k average s) := rfl

theorem goodJudged_zero (k : CheckKind) (average : Nat) (s : State) :
    (goodJudged k average s).zero = { s.zero with unchecked := 0, forced := false } := by
  simp [goodJudged]

theorem goodJudged_rest (k : CheckKind) (average : Nat) (s : State) :
    (goodJudged k average s).mode = s.mode ∧ (goodJudged k average s).ctx = s.ctx ∧
    (goodJudged k average s).leak = s.leak ∧ (goodJudged k average s).conv = s.conv ∧
    (goodJudged k average s).queue = (recordsJudged k .checked s).queue := by
  simp [goodJudged]

theorem mark_goodJudged (k : CheckKind) (average : Nat) {s : State} {q : Port} (hroute : (routeOf s 8).has q = true) :
    mark (goodJudged k average s) 8 q = some (.zero k .good average) := by
  refine mark_of_raise (e := .zero k .good average) (.of_events rfl) ?_
  simpa [routeOf, Event.source] using hroute

/-! ## A failed check (R131) -/

/-- The records after a failed check, with the ZERO FAIL entry of the current one. -/
def failedPosted (k : CheckKind) (average : Nat) (s : State) : State :=
  if (currentRecord k s).isSome then appendFault .zeroFail average (recordsJudged k .suspect s)
  else recordsJudged k .suspect s

/-- The number of records that a failed check marks, besides its current one. -/
def markedCount (k : CheckKind) (s : State) : Nat :=
  countRecords (setCurrent (currentRecord k s) .suspect s) fun r => r.zero == some .unchecked

theorem currentRecord_congr {s t : State} (h : t.queue = s.queue) (k : CheckKind) :
    currentRecord k t = currentRecord k s := by rw [currentRecord, currentRecord, onTestSlot_congr h]

theorem markedCount_congr {s t : State} (h : t.queue = s.queue) (k : CheckKind) : markedCount k t = markedCount k s := by
  have hrecords : ∀ j, recordAt (setCurrent (currentRecord k t) .suspect t) j =
      recordAt (setCurrent (currentRecord k s) .suspect s) j := fun j => by
    rw [recordAt_setCurrent, recordAt_setCurrent, currentRecord_congr h, recordAt_congr h]
  have hslots : ∀ p : Record → Bool, slotHas (setCurrent (currentRecord k t) .suspect t) p =
      slotHas (setCurrent (currentRecord k s) .suspect s) p := fun p => funext fun j => by
    rw [slotHas, hrecords]
    rfl
  rw [markedCount, countRecords, hslots]
  rfl

/-- The entry of a failed check in the integrity log (R133). -/
def failedEntry (k : CheckKind) (average : Nat) (s : State) : LogEntry :=
  { kind := k, average := average, reference := s.zero.reference, tolerance := s.zero.tolerance
    marked := markedCount k s, departed := s.zero.unchecked - markedCount k s, slot := currentRecord k s
    policy := s.zero.policy }

/-- A failed check before its policy. -/
def failedJudged (k : CheckKind) (average : Nat) (s : State) : State :=
  raise (.zero k .failed average) (raise (.suspect (markedCount k s) (s.zero.unchecked - markedCount k s))
    ((failedPosted k average s).withZero
      { s.zero with log := addLog (failedEntry k average s) s.zero.log, unchecked := 0 }))

@[simp] theorem failedPosted_frame (k : CheckKind) (average : Nat) (s : State) :
    (failedPosted k average s).mode = s.mode ∧ (failedPosted k average s).ctx = s.ctx ∧
    (failedPosted k average s).demand = s.demand ∧ (failedPosted k average s).zero = s.zero ∧
    (failedPosted k average s).events = s.events := by
  unfold failedPosted
  split <;> simp

theorem failedCheck_eq (k : CheckKind) (average : Nat) (s : State) :
    failedCheck k average s = applyPolicy k (failedJudged k average s) := by
  obtain ⟨-, -, -, hzero, -⟩ := failedPosted_frame k average s
  have hposted : failedCheck k average s = applyPolicy k
      (raise (.zero k .failed average)
        (raise (.suspect (markedCount k s) ((failedPosted k average s).zero.unchecked - markedCount k s))
          ((failedPosted k average s).withZero
            { (failedPosted k average s).zero with
              log := addLog
                { kind := k, average := average, reference := (failedPosted k average s).zero.reference
                  tolerance := (failedPosted k average s).zero.tolerance, marked := markedCount k s
                  departed := (failedPosted k average s).zero.unchecked - markedCount k s
                  slot := currentRecord k s, policy := (failedPosted k average s).zero.policy }
                (failedPosted k average s).zero.log
              unchecked := 0 }))) := rfl
  rw [hposted, hzero]
  rfl

theorem failedJudged_zero (k : CheckKind) (average : Nat) (s : State) :
    (failedJudged k average s).zero = { s.zero with log := addLog (failedEntry k average s) s.zero.log, unchecked := 0 } := by
  simp [failedJudged]

theorem failedJudged_rest (k : CheckKind) (average : Nat) (s : State) :
    (failedJudged k average s).mode = s.mode ∧ (failedJudged k average s).ctx = s.ctx ∧
    (failedJudged k average s).demand = s.demand ∧ (failedJudged k average s).queue = (failedPosted k average s).queue ∧
    (failedJudged k average s).events.routes = s.events.routes := by
  simp [failedJudged, raise_routes]

theorem allJudged_failedPosted (k : CheckKind) (average : Nat) (s : State) : AllJudged (failedPosted k average s) := by
  unfold failedPosted
  split
  · intro i r hr
    rw [appendFault, recordAt_post] at hr
    split at hr
    · obtain ⟨x, hx, rfl⟩ := Option.map_eq_some_iff.1 hr
      rw [appendEntry_frame]
      exact allJudged_recordsJudged k (by decide) s i x hx
    · exact allJudged_recordsJudged k (by decide) s i r hr
  · exact allJudged_recordsJudged k (by decide) s

theorem mark_failedJudged_suspect (k : CheckKind) (average : Nat) {s : State} {q : Port}
    (hroute : (routeOf s 3).has q = true) :
    mark (failedJudged k average s) 3 q = some (.suspect (markedCount k s) (s.zero.unchecked - markedCount k s)) := by
  refine mark_of_raise (e := .suspect _ _) (marksKept_raise (by simp [Event.source]) _) ?_
  simpa [routeOf, Event.source] using hroute

theorem mark_failedJudged_zero (k : CheckKind) (average : Nat) {s : State} {q : Port}
    (hroute : (routeOf s 8).has q = true) :
    mark (failedJudged k average s) 8 q = some (.zero k .failed average) := by
  refine mark_of_raise (e := .zero k .failed average) (.of_events rfl) ?_
  simpa [routeOf, raise_routes, Event.source] using hroute

theorem addLog_last (e : LogEntry) (l : List LogEntry) : (addLog e l).getLast? = some e := by
  unfold addLog
  split <;> simp

theorem addLog_length (e : LogEntry) (l : List LogEntry) : (addLog e l).length = min 8 (l.length + 1) := by
  unfold addLog
  split <;> simp <;> omega

end Sys2Proof.Machine
end


section
/-! PROOFS. The policy after a check and the outcomes of each kind (spec/08): O34. -/

namespace Sys2Proof.Machine

/-! ## The judgement (R126) -/

/-- The average of a check's burst. -/
def checkAverage (s : State) : Nat := (s.zero.sum + 4) / 8

/-- The check in progress is over, with its timer. -/
def checkEnded (s : State) : State := s.withZero { s.zero with check := none, timer := .stopped }

/-- The average lies within the tolerance of the reference. -/
def CheckGood (s : State) : Prop := distance (checkAverage s) s.zero.reference ≤ s.zero.tolerance

/-- The check in progress is over, and its average is the reference (R127). -/
def captured (s : State) : State :=
  (checkEnded s).withZero { (checkEnded s).zero with reference := checkAverage s, refValid := true }

theorem judgeCheck_capture (s : State) :
    judgeCheck .capture s = goodJudged .capture (checkAverage s) (captured s) := rfl

theorem judgeCheck_good {k : CheckKind} {s : State} (hk : k ≠ .capture) (h : CheckGood s) :
    judgeCheck k s = answerOf k (goodJudged k (checkAverage s) (checkEnded s)) := by
  rw [← goodCheck_eq]
  exact (if_neg hk).trans (if_pos h)

theorem judgeCheck_failed {k : CheckKind} {s : State} (hk : k ≠ .capture) (h : ¬CheckGood s) :
    judgeCheck k s = applyPolicy k (failedJudged k (checkAverage s) (checkEnded s)) := by
  rw [← failedCheck_eq]
  exact (if_neg hk).trans (if_neg h)

/-! ## The policy (R132) -/

theorem applyPolicy_flag {s : State} (h : s.zero.policy = .flag) (k : CheckKind) :
    applyPolicy k s = answerOf k (s.withZero { s.zero with forced := true }) := by rw [applyPolicy, h]

theorem applyPolicy_halt {s : State} (h : s.zero.policy = .halt) (k : CheckKind) : applyPolicy k s = enterHalt s := by
  rw [applyPolicy, h]

/-- HALT with no check and no UNCHECKED record: the Zero Check stays, and so do the marks but for HALT, VERDICT and MODE. -/
theorem enterHalt_judged {s : State} (hcheck : s.zero.check = none) (hall : AllJudged s) :
    (enterHalt s).zero = s.zero ∧ (∀ i, i ≠ 0 → i ≠ 4 → i ≠ 6 → MarksKept i s (enterHalt s)) ∧
    ∀ q, (routeOf s 0).has q = true → mark (enterHalt s) 0 q = some (.halt s.mode.mode) := by
  obtain ⟨hzero, hmarks⟩ := enterStopped_judged (s := raise (.halt s.mode.mode) s) hcheck (hall.of_queue rfl) .halt
  refine ⟨hzero, fun i hhalt hverdict hmode => (marksKept_raise hhalt s).trans (hmarks i hverdict hmode), fun q hroute => ?_⟩
  exact mark_of_raise (e := .halt s.mode.mode) (hmarks 0 (by decide) (by decide)) hroute

theorem enterHalt_spec (s : State) :
    (enterHalt s).mode.mode = .halt ∧ (enterHalt s).mode.target = none ∧ (enterHalt s).ctx = none ∧
    (enterHalt s).mode.guards = s.mode.guards ∧
    (enterHalt s).demand = { s.demand with speed := 0, wheel := 0, ramp := none } ∧ (enterHalt s).leak.phase = .vent ∧
    driveEnable (enterHalt s) = false ∧ unclampPermit (enterHalt s) = false ∧
    ∀ i, recordAt (enterHalt s) i = if onTestSlot s = some i then (recordAt s i).map (decided s.ctx) else recordAt s i := by
  have hcontroller := enterStopped_controller .halt (raise (.halt s.mode.mode) s)
  have hmode : (enterHalt s).mode.mode = .halt := enterStopped_mode _ _
  refine ⟨hmode, by rw [enterHalt, hcontroller], enterStopped_ctx _ _, by rw [enterHalt, hcontroller]; rfl,
    enterStopped_demand _ _, ?_, driveEnable_of_inactive (by rw [hmode]; rfl), by rw [unclampPermit, hmode]; rfl,
    fun i => recordAt_enterStopped _ _ i⟩
  rw [enterHalt, enterStopped_leak]
  exact leakToVent_phase _

/-- The answer to the Run-In Controller, with every record judged, leaves the Zero Check and the marks but for VERDICT. -/
theorem answerOf_judged {s : State} (hcheck : s.zero.check = none) (hall : AllJudged s) (k : CheckKind) :
    (answerOf k s).zero = s.zero ∧ ∀ i, i ≠ 4 → MarksKept i s (answerOf k s) := by
  have hsame : s.zero = s.zero ∧ ∀ i, i ≠ 4 → MarksKept i s s := ⟨rfl, fun i _ => .of_events rfl⟩
  unfold answerOf zeroAnswer
  split
  · split
    next c _ =>
      split
      · unfold decisionDue
        split
        · obtain ⟨hzero, hmarks⟩ := normalDecision_judged (s := toFinishStage c .decisionDue false s) hcheck (hall.of_queue rfl)
          exact ⟨hzero, fun i hi => .trans (.of_events rfl) (hmarks i hi)⟩
        · exact ⟨rfl, fun i _ => .of_events rfl⟩
      · exact hsame
    next => exact hsame
  · exact hsame

/-- The policy, with every record judged, changes of the Zero Check at most the forced flag. -/
theorem applyPolicy_judged {s : State} (hcheck : s.zero.check = none) (hall : AllJudged s) (k : CheckKind) :
    (applyPolicy k s).zero = { s.zero with forced := decide (s.zero.policy = .flag) || s.zero.forced } ∧
    ∀ i, i ≠ 0 → i ≠ 4 → i ≠ 6 → MarksKept i s (applyPolicy k s) := by
  cases hpolicy : s.zero.policy with
  | flag =>
    rw [applyPolicy_flag hpolicy]
    obtain ⟨hzero, hmarks⟩ := answerOf_judged (s := s.withZero { s.zero with forced := true }) hcheck (hall.of_queue rfl) k
    exact ⟨hzero, fun i _ hverdict _ => .trans (.of_events rfl) (hmarks i hverdict)⟩
  | halt =>
    rw [applyPolicy_halt hpolicy]
    obtain ⟨hzero, hmarks, -⟩ := enterHalt_judged hcheck hall
    exact ⟨hzero, hmarks⟩

/-! ## A failed check (R131) -/

/-- What a failed check of any kind does to the Zero Check and to the marks. -/
structure FailedCheck (k : CheckKind) (s t : State) : Prop where
  zero : t.zero =
    { s.zero with
      check := none, timer := .stopped, unchecked := 0, log := addLog (failedEntry k (checkAverage s) s) s.zero.log
      forced := decide (s.zero.policy = .flag) || s.zero.forced }
  suspect : ∀ q, (routeOf s 3).has q = true →
    mark t 3 q = some (.suspect (markedCount k s) (s.zero.unchecked - markedCount k s))
  failed : ∀ q, (routeOf s 8).has q = true → mark t 8 q = some (.zero k .failed (checkAverage s))

theorem failedCheck_judgeCheck {k : CheckKind} {s : State} (hk : k ≠ .capture) (h : ¬CheckGood s) :
    FailedCheck k s (judgeCheck k s) := by
  have hjudged := failedJudged_zero k (checkAverage s) (checkEnded s)
  obtain ⟨-, -, -, hqueue, -⟩ := failedJudged_rest k (checkAverage s) (checkEnded s)
  obtain ⟨hzero, hmarks⟩ := applyPolicy_judged (s := failedJudged k (checkAverage s) (checkEnded s)) (by rw [hjudged]; rfl)
    ((allJudged_failedPosted k _ _).of_queue hqueue) k
  have hcount : markedCount k (checkEnded s) = markedCount k s := markedCount_congr (s := s) (t := checkEnded s) rfl k
  rw [judgeCheck_failed hk h]
  refine ⟨?_, fun q hq => ?_, fun q hq => ?_⟩
  · rw [hzero, hjudged, failedEntry, hcount, currentRecord_congr (s := s) (t := checkEnded s) rfl]
    rfl
  · rw [← hcount]
    exact ((hmarks 3 (by decide) (by decide) (by decide)).2 q).trans (mark_failedJudged_suspect k _ hq)
  · exact ((hmarks 8 (by decide) (by decide) (by decide)).2 q).trans (mark_failedJudged_zero k _ hq)

theorem recordAt_failedJudged_command (average : Nat) (s : State) (i : Fin 16) :
    recordAt (failedJudged .command average s) i = (recordAt s i).map (judgeStatus .suspect) := by
  obtain ⟨-, -, -, hqueue, -⟩ := failedJudged_rest .command average s
  rw [recordAt_congr hqueue]
  exact recordAt_modifyAll i _ s

theorem onTestSlot_failedJudged_command (average : Nat) (s : State) :
    onTestSlot (failedJudged .command average s) = onTestSlot s := by
  obtain ⟨-, -, -, hqueue, -⟩ := failedJudged_rest .command average s
  exact (onTestSlot_congr hqueue).trans (onTestSlot_recordsJudged .command .suspect s)

/-- A failed COMMAND check under FLAG. -/
theorem judgeCheck_command_flag {s : State} (h : ¬CheckGood s) (hflag : s.zero.policy = .flag) :
    (judgeCheck .command s).mode = s.mode ∧ (judgeCheck .command s).ctx = s.ctx ∧
    ∀ i, recordAt (judgeCheck .command s) i = (recordAt s i).map (judgeStatus .suspect) := by
  obtain ⟨hmode, hctx, -⟩ := failedJudged_rest .command (checkAverage s) (checkEnded s)
  have hpolicy : (failedJudged .command (checkAverage s) (checkEnded s)).zero.policy = .flag := by
    rw [failedJudged_zero]
    exact hflag
  rw [judgeCheck_failed (by decide) h, applyPolicy_flag hpolicy]
  exact ⟨hmode, hctx, fun i => recordAt_failedJudged_command (checkAverage s) (checkEnded s) i⟩

/-- A failed check under HALT. -/
theorem judgeCheck_halt {k : CheckKind} (hk : k ≠ .capture) {s : State} (h : ¬CheckGood s) (hhalt : s.zero.policy = .halt) :
    judgeCheck k s = enterHalt (failedJudged k (checkAverage s) (checkEnded s)) := by
  have hpolicy : (failedJudged k (checkAverage s) (checkEnded s)).zero.policy = .halt := by
    rw [failedJudged_zero]
    exact hhalt
  rw [judgeCheck_failed hk h, applyPolicy_halt hpolicy]

theorem mark_judgeCheck_halt {k : CheckKind} (hk : k ≠ .capture) {s : State} (h : ¬CheckGood s)
    (hhalt : s.zero.policy = .halt) {q : Port} (hroute : (routeOf s 0).has q = true) :
    mark (judgeCheck k s) 0 q = some (.halt s.mode.mode) := by
  obtain ⟨hmode, -, -, hqueue, hroutes⟩ := failedJudged_rest k (checkAverage s) (checkEnded s)
  obtain ⟨-, -, hmark⟩ := enterHalt_judged (s := failedJudged k (checkAverage s) (checkEnded s))
    (by rw [failedJudged_zero]; rfl) ((allJudged_failedPosted k _ _).of_queue hqueue)
  rw [judgeCheck_halt hk h hhalt, hmark q (by rw [routeOf, hroutes]; exact hroute), hmode]
  rfl

/-- A failed COMMAND check judges every record that is not decided by its HALT, whichever policy holds. -/
theorem recordAt_judgeCheck_command {s : State} (h : ¬CheckGood s) {i : Fin 16} {r : Record} (hr : recordAt s i = some r)
    (hstate : r.state ≠ .onTest) : recordAt (judgeCheck .command s) i = some (judgeStatus .suspect r) := by
  cases hpolicy : s.zero.policy with
  | flag =>
    obtain ⟨-, -, hrecords⟩ := judgeCheck_command_flag h hpolicy
    rw [hrecords, hr]
    rfl
  | halt =>
    obtain ⟨-, -, -, -, -, -, -, -, hrecords⟩ := enterHalt_spec (failedJudged .command (checkAverage s) (checkEnded s))
    have hslot : onTestSlot s ≠ some i := fun hi => by
      obtain ⟨x, hx, hx'⟩ := onTestSlot_some hi
      rw [Option.some.inj (hr.symm.trans hx)] at hstate
      exact hstate hx'
    rw [judgeCheck_halt (by decide) h hpolicy, hrecords, onTestSlot_failedJudged_command,
      if_neg (show onTestSlot (checkEnded s) ≠ some i from hslot), recordAt_failedJudged_command]
    exact congrArg (Option.map _) hr

end Sys2Proof.Machine
end


section
/-! PROOFS. The judgement of an END OF TEST check, and the whole of O34 (spec/08). -/

namespace Sys2Proof.Machine

/-! ## The decision of the record in slot i -/

/-- The record in slot i is decided with the status and the faults of x, and every other record stays. -/
def DecidedAs (i : Fin 16) (x : Record) (s t : State) : Prop :=
  (∃ r, recordAt t i = some r ∧ r.state = .decided ∧ r.zero = x.zero ∧ r.faults = x.faults) ∧
  ∀ j, j ≠ i → recordAt t j = recordAt s j

/-- The answer to ZERO WAIT in RUN decides the record ON TEST (R53). -/
theorem answerOf_decides {s : State} {c : TestContext} {i : Fin 16} {x : Record} (hrun : s.mode.mode = .run)
    (hc : s.ctx = some c) (hphase : c.phase = .finish .zeroWait) (h : Testing s i x) :
    (answerOf .endOfTest s).mode.mode = .ready ∧ (answerOf .endOfTest s).ctx = none ∧
    DecidedAs i x s (answerOf .endOfTest s) := by
  have hanswer : answerOf .endOfTest s = normalDecision (toFinishStage c .decisionDue false s) := by
    rw [answerOf, if_pos rfl, zeroAnswer, hc]
    exact (if_pos hphase).trans (if_pos hrun)
  have hstage : Testing (toFinishStage c .decisionDue false s) i x := h.congr rfl
  obtain ⟨hready, -, hctx, hrecord, hothers, -⟩ := normalDecision_spec hstage.slot hstage.record
  rw [hanswer]
  exact ⟨hready, hctx, ⟨_, hrecord, rfl, rfl, rfl⟩, hothers⟩

/-- HALT decides the record ON TEST (R18). -/
theorem enterHalt_decides {s : State} {i : Fin 16} {x : Record} (h : Testing s i x) : DecidedAs i x s (enterHalt s) := by
  obtain ⟨-, -, -, -, -, -, -, -, hrecords⟩ := enterHalt_spec s
  refine ⟨⟨decided s.ctx x, ?_, rfl, rfl, rfl⟩, fun j hj => ?_⟩
  · rw [hrecords, if_pos h.slot, h.record]
    rfl
  · rw [hrecords, h.slot, if_neg fun heq => hj (Option.some.inj heq).symm]

/-! ## The records of an END OF TEST check -/

section
variable {s : State} {i : Fin 16} {r : Record} {x : ZeroStatus}

theorem currentRecord_endOfTest (s : State) : currentRecord .endOfTest s = onTestSlot s := rfl

/-- The current record takes the status of the judgement. -/
theorem testing_recordsJudged (h : Testing s i r) (hx : r.zero = some x) (z : ZeroStatus) :
    Testing (recordsJudged .endOfTest z s) i { r with zero := some z } := by
  refine ⟨(onTestSlot_recordsJudged _ _ s).trans h.slot, ?_⟩
  rw [recordAt_recordsJudged, currentRecord_endOfTest, if_pos h.slot, h.record]
  exact congrArg some (judgeStatus_setZeroStatus hx)

theorem recordAt_recordsJudged_other (hslot : onTestSlot s = some i) (z : ZeroStatus) {j : Fin 16} (hj : j ≠ i) :
    recordAt (recordsJudged .endOfTest z s) j = (recordAt s j).map (judgeStatus z) := by
  rw [recordAt_recordsJudged, currentRecord_endOfTest, hslot, if_neg fun heq => hj (Option.some.inj heq).symm]

/-- The current record of a failed check has its ZERO FAIL entry. -/
theorem testing_failedJudged (h : Testing s i r) (hx : r.zero = some x) (hroom : r.faults.length < 6) (average : Nat) :
    Testing (failedJudged .endOfTest average s) i
      { r with zero := some .suspect, faults := r.faults ++ [⟨.zeroFail, currentStep s, average⟩] } := by
  obtain ⟨-, -, -, hqueue, -⟩ := failedJudged_rest .endOfTest average s
  obtain ⟨-, hctx, -⟩ := recordsJudged_frame .endOfTest .suspect s
  have hstep : currentStep (recordsJudged .endOfTest .suspect s) = currentStep s := by rw [currentStep, hctx, currentStep]
  have hposted : failedPosted .endOfTest average s =
      appendFault .zeroFail average (recordsJudged .endOfTest .suspect s) :=
    if_pos (by rw [currentRecord_endOfTest, h.slot]; rfl)
  have hentry := (testing_recordsJudged h hx .suspect).appendFault_room hroom .zeroFail average
  rw [hstep] at hentry
  exact hentry.congr (hqueue.trans (congrArg State.queue hposted))

theorem recordAt_failedJudged_other (hslot : onTestSlot s = some i) (average : Nat) {j : Fin 16} (hj : j ≠ i) :
    recordAt (failedJudged .endOfTest average s) j = (recordAt s j).map (judgeStatus .suspect) := by
  obtain ⟨-, -, -, hqueue, -⟩ := failedJudged_rest .endOfTest average s
  have hposted : failedPosted .endOfTest average s =
      appendFault .zeroFail average (recordsJudged .endOfTest .suspect s) :=
    if_pos (by rw [currentRecord_endOfTest, hslot]; rfl)
  have hnot : ¬onTestSlot (recordsJudged .endOfTest .suspect s) = some j := by
    rw [onTestSlot_recordsJudged, hslot]
    exact fun heq => hj (Option.some.inj heq).symm
  rw [recordAt_congr hqueue, hposted, appendFault, recordAt_post, if_neg hnot, recordAt_recordsJudged_other hslot _ hj]

/-- The marked count of an END OF TEST check: the UNCHECKED records but for the current one. -/
theorem markedCount_endOfTest (hslot : onTestSlot s = some i) :
    markedCount .endOfTest s = ((List.finRange 16).filter fun j =>
      decide (j ≠ i) && slotHas s (fun x => x.zero == some .unchecked) j).length := by
  have hslots : slotHas (setCurrent (some i) .suspect s) (fun x => x.zero == some .unchecked) =
      fun j => decide (j ≠ i) && slotHas s (fun x => x.zero == some .unchecked) j := funext fun j => by
    rw [slotHas, recordAt_setCurrent]
    by_cases hj : j = i
    · subst hj
      cases hr : recordAt s j with
      | none => simp
      | some r => cases hz : r.zero <;> simp [setZeroStatus, hz]
    · simp [slotHas, hj, Ne.symm hj]
  rw [markedCount, currentRecord_endOfTest, hslot, countRecords, hslots]
  rfl

end

/-! ## The outcomes of an END OF TEST check -/

/-- A good END OF TEST check in ZERO WAIT in RUN. -/
theorem judgeCheck_endOfTest_good {s : State} {c : TestContext} {i : Fin 16} {r : Record} {x : ZeroStatus}
    (hrun : s.mode.mode = .run) (hc : s.ctx = some c) (hphase : c.phase = .finish .zeroWait) (h : Testing s i r)
    (hx : r.zero = some x) (hgood : CheckGood s) :
    (judgeCheck .endOfTest s).zero =
      { s.zero with check := none, timer := .stopped, unchecked := 0, forced := false } ∧
    (judgeCheck .endOfTest s).mode.mode = .ready ∧ (judgeCheck .endOfTest s).ctx = none ∧
    (∀ q, (routeOf s 8).has q = true →
      mark (judgeCheck .endOfTest s) 8 q = some (.zero .endOfTest .good (checkAverage s))) ∧
    DecidedAs i { r with zero := some .checked } (recordsJudged .endOfTest .checked s) (judgeCheck .endOfTest s) := by
  obtain ⟨u, hu⟩ : ∃ u, u = goodJudged .endOfTest (checkAverage s) (checkEnded s) := ⟨_, rfl⟩
  have hzero := (congrArg State.zero hu).trans (goodJudged_zero _ _ _)
  obtain ⟨hmode, hctx, -, -, hqueue⟩ := hu ▸ goodJudged_rest .endOfTest (checkAverage s) (checkEnded s)
  have hended : Testing (checkEnded s) i r := h.congr rfl
  have htest : Testing u i { r with zero := some .checked } := (testing_recordsJudged hended hx .checked).congr hqueue
  have hall : AllJudged u := (allJudged_recordsJudged .endOfTest (by decide) (checkEnded s)).of_queue hqueue
  obtain ⟨hkept, hmarks⟩ := answerOf_judged (s := u) (by rw [hzero]; rfl) hall .endOfTest
  obtain ⟨hready, hnone, hrecord, hothers⟩ := answerOf_decides (s := u) (by rw [hmode]; exact hrun) (hctx.trans hc) hphase htest
  rw [judgeCheck_good (by decide) hgood, ← hu]
  refine ⟨by rw [hkept, hzero]; rfl, hready, hnone, fun q hq => ?_, hrecord, fun j hj => ?_⟩
  · rw [(hmarks 8 (by decide)).2 q, hu]
    exact mark_goodJudged .endOfTest _ hq
  · rw [hothers j hj, recordAt_congr hqueue, recordAt_recordsJudged_other hended.slot _ hj,
      recordAt_recordsJudged_other h.slot _ hj]
    rfl

/-- A failed END OF TEST check in ZERO WAIT in RUN. -/
theorem judgeCheck_endOfTest_failed {s : State} {c : TestContext} {i : Fin 16} {r : Record} {x : ZeroStatus}
    (hrun : s.mode.mode = .run) (hc : s.ctx = some c) (hphase : c.phase = .finish .zeroWait) (h : Testing s i r)
    (hx : r.zero = some x) (hroom : r.faults.length < 6) (hfailed : ¬CheckGood s) :
    (judgeCheck .endOfTest s).ctx = none ∧ (s.zero.policy = .flag → (judgeCheck .endOfTest s).mode.mode = .ready) ∧
    (s.zero.policy = .halt → (judgeCheck .endOfTest s).mode.mode = .halt) ∧
    DecidedAs i { r with zero := some .suspect, faults := r.faults ++ [⟨.zeroFail, c.step, checkAverage s⟩] }
      (failedJudged .endOfTest (checkAverage s) (checkEnded s)) (judgeCheck .endOfTest s) := by
  obtain ⟨u, hu⟩ : ∃ u, u = failedJudged .endOfTest (checkAverage s) (checkEnded s) := ⟨_, rfl⟩
  have hzero := (congrArg State.zero hu).trans (failedJudged_zero _ _ _)
  obtain ⟨hmode, hctx, -⟩ := hu ▸ failedJudged_rest .endOfTest (checkAverage s) (checkEnded s)
  have hstep : currentStep (checkEnded s) = c.step := by
    have hended : (checkEnded s).ctx = some c := hc
    rw [currentStep, hended]
    rfl
  have htest := hu ▸ testing_failedJudged (h.congr (t := checkEnded s) rfl) hx hroom (checkAverage s)
  rw [hstep] at htest
  rw [judgeCheck_failed (by decide) hfailed, ← hu]
  have hpolicy : u.zero.policy = s.zero.policy := by rw [hzero]; rfl
  cases hp : s.zero.policy with
  | flag =>
    rw [applyPolicy_flag (hpolicy.trans hp)]
    obtain ⟨hready, hnone, hrecord, hothers⟩ := answerOf_decides (s := u.withZero { u.zero with forced := true })
      (by rw [State.withZero_mode, hmode]; exact hrun) (hctx.trans hc) hphase (htest.congr rfl)
    exact ⟨hnone, fun _ => hready, fun h => absurd h (by decide), hrecord, hothers⟩
  | halt =>
    rw [applyPolicy_halt (hpolicy.trans hp)]
    obtain ⟨hhalt, -, hnone, -⟩ := enterHalt_spec u
    exact ⟨hnone, fun h => absurd h (by decide), fun _ => hhalt, enterHalt_decides htest⟩

/-! ## O34 -/

/-- Settles O34: the checks without a current record by the records' judgement and the policy, and the END OF TEST check by the
decision that its answer or its HALT makes. -/
theorem checksJudged : Obligations.ChecksJudged := by
  unfold Obligations.ChecksJudged
  intro average good judged
  refine ⟨fun s hfailed => ?_, fun s hgood => ?_, fun s => ?_, fun s c i r x hrun hc hphase hslot hr hx hroom => ?_⟩
  · have hcheck : FailedCheck .command s (judgeCheck .command s) := failedCheck_judgeCheck (by decide) hfailed
    intro t marked
    have hzero : t.zero = _ := hcheck.zero
    refine ⟨by rw [hzero], by rw [hzero], by rw [hzero], by rw [hzero], ?_, ?_, hcheck.suspect, hcheck.failed,
      fun i r hr hstate => recordAt_judgeCheck_command hfailed hr hstate, fun hflag => ?_, fun hhalt => ?_⟩
    · rw [hzero]
      exact addLog_last _ _
    · rw [hzero]
      exact addLog_length _ _
    · obtain ⟨hmode, hctx, hrecords⟩ := judgeCheck_command_flag hfailed hflag
      exact ⟨by rw [hzero, hflag]; rfl, hmode, hctx, hrecords⟩
    · have ht : t = _ := judgeCheck_halt (by decide) hfailed hhalt
      obtain ⟨hmode, htarget, hctx, hguards, hdemand, hleak, henable, hpermit, -⟩ :=
        enterHalt_spec (failedJudged .command (checkAverage s) (checkEnded s))
      obtain ⟨hmode', -, hdemand', -⟩ := failedJudged_rest .command (checkAverage s) (checkEnded s)
      rw [hmode'] at hguards
      rw [hdemand'] at hdemand
      rw [← ht] at hmode htarget hctx hguards hdemand hleak henable hpermit
      exact ⟨by rw [hzero, hhalt]; rfl, hmode, htarget, hctx, hguards, hdemand, hleak, henable, hpermit,
        fun q hq => mark_judgeCheck_halt (by decide) hfailed hhalt hq⟩
  · have ht : judgeCheck .command s = goodJudged .command (checkAverage s) (checkEnded s) := judgeCheck_good (by decide) hgood
    obtain ⟨hmode, hctx, hleak, hconv, hqueue⟩ := goodJudged_rest .command (checkAverage s) (checkEnded s)
    rw [ht]
    exact ⟨goodJudged_zero _ _ _, hmode, hctx, hleak, hconv, fun q hq => mark_goodJudged .command _ hq,
      fun i => (recordAt_congr hqueue i).trans (recordAt_modifyAll i _ s)⟩
  · rw [judgeCheck_capture]
    obtain ⟨hmode, hctx, -, -, hqueue⟩ := goodJudged_rest .capture (checkAverage s) (captured s)
    intro t
    have hzero : t.zero = _ := goodJudged_zero .capture (checkAverage s) (captured s)
    exact ⟨by rw [hzero]; rfl, by rw [hzero]; rfl, by rw [hzero]; rfl, by rw [hzero], by rw [hzero], by rw [hzero]; rfl,
      hmode, hctx, fun q hq => mark_goodJudged (s := captured s) .capture _ hq,
      fun i => (recordAt_congr hqueue i).trans (recordAt_modifyAll i _ (captured s))⟩
  · have htest : Testing s i r := ⟨hslot, hr⟩
    intro t marked
    by_cases h : good s
    · obtain ⟨hzero, hready, hctx, hmark, hrecord, hothers⟩ :=
        judgeCheck_endOfTest_good hrun hc hphase htest hx h
      have hzero : t.zero = _ := hzero
      refine ⟨by rw [hzero], by rw [hzero], hctx, fun j y hj hy _ => ?_,
        fun _ => ⟨hready, by rw [hzero], by rw [hzero], hmark, hrecord⟩, fun hfailed => absurd h hfailed⟩
      rw [if_pos h]
      exact (hothers j hj).trans ((recordAt_recordsJudged_other hslot .checked hj).trans (congrArg (Option.map _) hy))
    · obtain ⟨hctx, hflag, hhalt, hrecord, hothers⟩ :=
        judgeCheck_endOfTest_failed hrun hc hphase htest hx hroom h
      have hcheck : FailedCheck .endOfTest s (judgeCheck .endOfTest s) := failedCheck_judgeCheck (by decide) h
      have hmarked : markedCount .endOfTest s = marked := markedCount_endOfTest hslot
      have hzero : t.zero = _ := hcheck.zero
      refine ⟨by rw [hzero], by rw [hzero], hctx, fun j y hj hy _ => ?_, fun hgood => absurd hgood h, fun _ => ⟨?_, ?_,
        hcheck.failed, hrecord, fun hp => ⟨hflag hp, by rw [hzero, hp]; rfl⟩, fun hp => ⟨hhalt hp, by rw [hzero, hp]; rfl, ?_⟩⟩⟩
      · rw [if_neg h]
        have hslot' : onTestSlot (checkEnded s) = some i := hslot
        exact (hothers j hj).trans ((recordAt_failedJudged_other hslot' _ hj).trans (congrArg (Option.map _) hy))
      · rw [hzero]
        refine (addLog_last _ _).trans ?_
        rw [failedEntry, hmarked, currentRecord_endOfTest, hslot]
        rfl
      · rw [← hmarked]
        exact hcheck.suspect
      · exact fun q hq => hrun ▸ mark_judgeCheck_halt (by decide) h hp hq

end Sys2Proof.Machine
end


section
/-! PROOFS. What a completion hands on to the blocks besides its requester, and the readings of LEAK (spec/07, spec/09): O31. -/

namespace Sys2Proof.Machine

/-! ## The converter's part -/

/-- The state after a completion. -/
def completed (c : Conversion) (v : Nat) (s : State) : State :=
  (delivered c v s).withConv (grant { (delivered c v s).conv with inProgress := none })

theorem exec_completed {s : State} {c : Conversion} (h : s.conv.inProgress = some c) (v : Word16) :
    exec (.conversionCompletion v) s = .next (completed c v.toNat s) := exec_completion h v

/-- What a completion keeps, whichever requester asked. -/
theorem completed_keeps {s : State} {c : Conversion} (h : s.conv.inProgress = some c) (v : Nat) :
    (completed c v s).conv.lastP = (if c.channel = .p then some v else s.conv.lastP) ∧
    (completed c v s).conv.classes = s.conv.classes ∧ (completed c v s).conv.spotMasked = s.conv.spotMasked ∧
    (completed c v s).store = s.store ∧ (completed c v s).link = s.link ∧ (completed c v s).ports = s.ports ∧
    (completed c v s).queue.nextSeq = s.queue.nextSeq ∧ (completed c v s).pending = s.pending := by
  have hkept := arbiterKept_delivered h v
  have hrest : convRest (completed c v s).conv = convRest (delivered c v s).conv := convRest_grant _
  obtain ⟨hlast, hclasses, hmasked⟩ : _ ∧ _ ∧ _ := by simpa [convRest] using hrest
  refine ⟨hlast.trans hkept.lastP, hclasses.trans hkept.classes, hmasked.trans hkept.spotMasked, ?_, ?_, ?_,
    (reading_delivered c v s).nextSeq, ?_⟩
  all_goals simp [completed, delivered]

/-- A grant leaves a requester without a request without one. -/
theorem grant_waiting {a : Arbiter} {r : Requester} (h : a.waiting.get r = none) : (grant a).waiting.get r = none := by
  have htake : ∀ q (b : Arbiter), b.waiting = a.waiting → (takeRequest q b).waiting.get r = none := fun q b hb => by
    have hset : (b.waiting.set q none).get r = none := by
      rw [hb]
      by_cases hq : r = q
      · subst hq; simp
      · simpa [hq] using h
    unfold takeRequest
    split
    · exact hset
    · exact hset
    · rw [hb]; exact h
  have hrequest : ∀ b : Arbiter, b.waiting = a.waiting → (grantRequest b).waiting.get r = none := fun b hb => by
    unfold grantRequest
    split
    · exact htake _ _ hb
    · split
      · exact htake _ _ hb
      · split
        · exact htake _ _ hb
        · rw [hb]; exact h
  unfold grant
  split
  · exact h
  · exact hrequest _ rfl

/-! ## The reading that VENT and the Mode Controller take (R115, R13) -/

theorem targetReached_leakRequest (x : Target) (s : State) :
    (targetReached x s).conv.waiting.leak = s.conv.waiting.leak := by
  simp [targetReached, setMode_leakRequest]

theorem completionCheck_leakRequest (s : State) : (completionCheck s).conv.waiting.leak = s.conv.waiting.leak := by
  cases htarget : s.mode.target with
  | none => rw [completionCheck, htarget]
  | some x =>
    cases hcomplete : targetComplete s with
    | true => rw [completionCheck_reached htarget hcomplete, targetReached_leakRequest]
    | false => rw [completionCheck_pending hcomplete]

theorem completionCheck_untargeted {s : State} (h : s.mode.target = none) : completionCheck s = s := by
  rw [completionCheck, h]

theorem marksKept_completionCheck {i : Fin 11} (hmode : i ≠ 6) (hzero : i ≠ 8) (s : State) :
    MarksKept i s (completionCheck s) := by
  cases htarget : s.mode.target with
  | none => rw [completionCheck_untargeted htarget]; exact .of_events rfl
  | some x =>
    cases hcomplete : targetComplete s with
    | false => rw [completionCheck_pending hcomplete]; exact .of_events rfl
    | true =>
      rw [completionCheck_reached htarget hcomplete]
      have hset : MarksKept i s (setMode x.mode (s.withDemand (demandStopped s.demand))) :=
        .trans (.of_events rfl) (marksKept_setMode hzero _ _)
      exact hset.trans (.trans (.of_events rfl) ((marksKept_raise hmode _).trans (.of_events (judgeMonitors_events _))))

theorem ventReading_of_phase {s : State} (h : s.leak.phase ≠ .vent) (v : Nat) : ventReading v s = s :=
  if_neg fun hvent => h hvent.1

theorem ventReading_of_high {s : State} {v : Nat} (h : ventThreshold s.zero ≤ v) : ventReading v s = s :=
  if_neg fun hlow => absurd hlow.2 (by omega)

/-- VENT is over: DONE, with the request timer stopped. -/
def ventDone (s : State) : State := (leakLeave s).withLeak { leftLeak s.leak with phase := .done }

theorem ventReading_low {s : State} {v : Nat} (h : s.leak.phase = .vent) (hlow : v < ventThreshold s.zero) :
    ventReading v s = leakDoneReport (ventDone s) := if_pos ⟨h, hlow⟩

theorem leakDoneReport_noTest {s : State} (h : s.ctx = none) : leakDoneReport s = s := by rw [leakDoneReport, h]

theorem leakDoneReport_waits {s : State} {c : TestContext} (hc : s.ctx = some c) (h : c.phase ≠ .finish .ventWait) :
    leakDoneReport s = s := by
  rw [leakDoneReport, hc]
  exact if_neg h

theorem leakDoneReport_asks {s : State} {c : TestContext} (hc : s.ctx = some c) (h : c.phase = .finish .ventWait) :
    leakDoneReport s = enterZeroWait c s := by
  rw [leakDoneReport, hc]
  exact if_pos h

theorem marksKept_normalDecision {i : Fin 11} (hverdict : i ≠ 4) (hzero : i ≠ 8) (s : State) :
    MarksKept i s (normalDecision s) :=
  (marksKept_endTest hverdict hzero s).trans ((marksKept_setMode hzero _ _).trans (.of_events (judgeMonitors_events _)))

theorem marksKept_enterZeroWait {i : Fin 11} (hverdict : i ≠ 4) (hzero : i ≠ 8) (c : TestContext) (s : State) :
    MarksKept i s (enterZeroWait c s) := by
  by_cases hrun : s.mode.mode = .run
  · by_cases hdue : checkDue s = true
    · rw [enterZeroWait_due hrun hdue]
      exact .of_events rfl
    · rw [enterZeroWait_decides hrun hdue]
      exact .trans (.of_events rfl) (marksKept_normalDecision hverdict hzero _)
  · rw [enterZeroWait_held hrun]
    exact .of_events rfl

theorem marksKept_ventReading {i : Fin 11} (hverdict : i ≠ 4) (hzero : i ≠ 8) (v : Nat) (s : State) :
    MarksKept i s (ventReading v s) := by
  have hdone : MarksKept i s (ventDone s) := .of_events rfl
  have hreport : MarksKept i (ventDone s) (leakDoneReport (ventDone s)) := by
    unfold leakDoneReport
    split
    · split
      · exact marksKept_enterZeroWait hverdict hzero _ _
      · exact .of_events rfl
    · exact .of_events rfl
  unfold ventReading
  split
  · exact hdone.trans hreport
  · exact .of_events rfl

/-- A P reading outside VENT and without a pending target is passed on to nobody. -/
theorem passPressure_idle {c : Conversion} {s : State} (h : c.channel = .p → s.leak.phase ≠ .vent ∧ s.mode.target = none) (v : Nat) :
    passPressure c v s = s := by
  unfold passPressure
  split
  case isTrue hp =>
    obtain ⟨hphase, htarget⟩ := h hp
    rw [ventReading_of_phase hphase, completionCheck_untargeted htarget]
  case isFalse => rfl

/-- Outside VENT a reading that is passed on changes neither the Leak Controller nor the records nor the test. -/
theorem passPressure_outside {c : Conversion} {s : State} (h : s.leak.phase ≠ .vent) (v : Nat) :
    (passPressure c v s).leak = s.leak ∧ (passPressure c v s).queue = s.queue ∧ (passPressure c v s).ctx = s.ctx ∧
    (passPressure c v s).conv.waiting.leak = s.conv.waiting.leak := by
  unfold passPressure
  split
  · rw [ventReading_of_phase h]
    simp [completionCheck_leakRequest]
  · exact ⟨rfl, rfl, rfl, rfl⟩

theorem passPressure_other {c : Conversion} (h : c.channel ≠ .p) (v : Nat) (s : State) : passPressure c v s = s := if_neg h

/-! ## A reading in FILL (R111) -/

theorem leakFillReading_below {c : TestContext} {s : State} (hc : s.ctx = some c) {v : Nat} (h : v < fillTarget c.copy) :
    leakFillReading v s = s.withLeak { s.leak with lastFill := some v } := by
  rw [leakFillReading, hc]
  exact if_pos h

/-- FILL ends: SETTLE, with its timer running in RUN in a leak-quiet step. -/
theorem leakFillReading_full {c : TestContext} {s : State} (hc : s.ctx = some c) {v : Nat} (h : fillTarget c.copy ≤ v)
    (hburst : s.leak.burst = none) :
    (leakFillReading v s).conv.waiting.leak = none ∧
    (leakFillReading v s).leak =
      { s.leak with
        phase := .settle, lastFill := some v, fill := .stopped, measure := .stopped, request := .stopped
        settle :=
          if s.mode.mode = .run ∧ leakQuiet c.copy c.step = true then .running (leakSettleTime c.copy * 100)
          else .stopped } := by
  obtain ⟨u, hu⟩ : ∃ u, u = (leakLeave (s.withLeak { s.leak with lastFill := some v })).withLeak
      { (leakLeave (s.withLeak { s.leak with lastFill := some v })).leak with phase := .settle } := ⟨_, rfl⟩
  have hleak : u.leak = { s.leak with
      phase := .settle, lastFill := some v, fill := .stopped, settle := .stopped, measure := .stopped
      request := .stopped } := by
    rw [hu, State.withLeak_leak, leakLeave_leak, leftLeak_of_noBurst (by exact hburst)]
    rfl
  have hconv : u.conv.waiting.leak = none := by simp [hu, leakLeave, withdraw, Arbiter.withdraw, PerRequester.set]
  have hmode : u.mode = s.mode := by rw [hu]; rfl
  have hreading : leakFillReading v s =
      if u.mode.mode == .run && leakQuiet c.copy c.step then leakQuietOpening c u else u := by
    rw [leakFillReading, hc, hu]
    exact if_neg (by omega)
  rw [hreading, hmode]
  by_cases hquiet : s.mode.mode = .run ∧ leakQuiet c.copy c.step = true
  · have hopening : leakQuietOpening c u = u.withLeak { u.leak with settle := .running (leakSettleTime c.copy * 100) } := by
      rw [leakQuietOpening, hleak]
      rfl
    rw [if_pos (by simpa using hquiet), hopening, if_pos hquiet, State.withLeak_leak, State.withLeak_conv, hleak]
    exact ⟨hconv, rfl⟩
  · rw [if_neg (by simpa using hquiet), if_neg hquiet, hleak]
    exact ⟨hconv, rfl⟩

end Sys2Proof.Machine
end


section
/-! PROOFS. The readings of LEAK in MEASURE: the bursts, the rate and the outcome (R113, R114): O31. -/

namespace Sys2Proof.Machine

/-! ## A conversion of a burst (R113) -/

theorem rangeFails_iff (v : Nat) : (!temperatureInRange v) = decide (v < 2330 ∨ 4230 < v) := by
  rw [temperatureInRange, ← decide_not]
  exact decide_eq_decide.2 (by simp only [Config.temperatureLow, Config.temperatureHigh]; omega)

/-- The state with a conversion added to the burst. -/
def conversionAdded (ch : Channel) (v : Nat) (s : State) : State := s.withLeak (leakAddConversion ch v s.leak)

/-- Both counts of a burst have reached its length. -/
def BurstFull (c : TestContext) (s : State) : Prop :=
  s.leak.pCount = burstLength c.copy ∧ s.leak.taCount = burstLength c.copy

section
variable {s : State} {c : TestContext} {kind : BurstKind} (hphase : s.leak.phase = .measure) (hc : s.ctx = some c)
  (hburst : s.leak.burst = some kind)
include hphase hc hburst

theorem leakReading_measure_short {ch : Channel} {v : Nat} (h : ¬BurstFull c (conversionAdded ch v s)) :
    leakReading ch v s = conversionAdded ch v s := by
  rw [leakReading, hphase]
  simp only [hc, hburst]
  exact if_neg h

theorem leakReading_measure_full {ch : Channel} {v : Nat} (h : BurstFull c (conversionAdded ch v s)) :
    leakReading ch v s = leakBurstDone c kind (conversionAdded ch v s) := by
  rw [leakReading, hphase]
  simp only [hc, hburst]
  exact if_pos h

end

/-! ## An interruption, with its post (R116) -/

/-- The leak section after an interruption of an attempt. -/
def interruptWith (attempt : Nat) (why : EndReason) (l : LeakSection) : LeakSection :=
  if attempt = 1 then { l with endOf1 := some why } else { l with endOf2 := some why, outcome := some .notDecided }

theorem Testing.leakInterrupt {s : State} {i : Fin 16} {r : Record} (h : Testing s i r) (why : EndReason) :
    Testing (leakInterrupt why s) i { r with leak := r.leak.map (interruptWith s.leak.attempts why) } := by
  have hended := h.leakLeave.postEndReason s.leak.attempts why
  unfold Machine.leakInterrupt
  dsimp only
  split
  case isTrue hfirst =>
    have hwith : interruptWith s.leak.attempts why = endWith s.leak.attempts why := funext fun l => by
      rw [interruptWith, endWith, if_pos hfirst, if_pos hfirst]
    rw [hwith]
    exact hended.withLeak _
  case isFalse hsecond =>
    have hwith : interruptWith s.leak.attempts why =
        (fun l => { l with outcome := some .notDecided }) ∘ endWith s.leak.attempts why := funext fun l => by
      rw [interruptWith, Function.comp_apply, endWith, if_neg hsecond, if_neg hsecond]
    rw [hwith, ← Option.map_map]
    exact (hended.setLeakOutcome .notDecided).leakEnterVent

/-! ## The end of a burst (R113, R114) -/

/-- The averages of a complete burst. -/
def burstAverages (c : TestContext) (l : LeakController) : PressureTemp :=
  ⟨burstAverage l.pSum (burstLength c.copy), burstAverage l.taSum (burstLength c.copy)⟩

theorem leakBurstDone_sensor {s : State} (h : s.leak.rangeMark = true) (c : TestContext) (kind : BurstKind) :
    leakBurstDone c kind s = leakInterrupt .sensor s := if_pos h

/-- The start burst starts the measuring span. -/
theorem leakBurstDone_start {s : State} (h : s.leak.rangeMark = false) (c : TestContext) :
    leakBurstDone c .start s =
      postLeak (fun l => { l with startValues := some (burstAverages c s.leak) })
        (s.withLeak { s.leak with
          burst := none, startValues := some (burstAverages c s.leak), measure := .running (measureTime c.copy) }) := by
  rw [leakBurstDone, h]
  rfl

/-- The end burst gives the rate and the outcome. -/
theorem leakBurstDone_finish {s : State} (h : s.leak.rangeMark = false) (c : TestContext) {a : PressureTemp}
    (ha : s.leak.startValues = some a) :
    leakBurstDone c .finish s =
      leakCompute c a (burstAverages c s.leak)
        (postLeak (fun l => { l with endValues := some (burstAverages c s.leak) })
          (s.withLeak { s.leak with burst := none })) := by
  have hstart : (postLeak (fun l => { l with endValues := some (burstAverages c s.leak) })
      (s.withLeak { s.leak with burst := none })).leak.startValues = some a := by simp [ha]
  rw [leakBurstDone, h]
  simp only [Bool.false_eq_true, if_false]
  split
  next b hb => rw [Option.some.inj (hb.symm.trans hstart)]; rfl
  next hnone => cases hnone.symm.trans hstart

/-- The outcome of a rate. -/
def rateOutcome (c : TestContext) (rate : Nat) : LeakOutcome := if rateLimit c.copy < rate then .fail else .pass

/-- The rate of two burst averages over the measuring span, 0 with the RISE note (R114). -/
def measuredRate (c : TestContext) (a e : PressureTemp) : Nat := (leakRate a e (measureTime c.copy)).getD 0

/-- The state before the outcome: the rate and the end reason are posted. -/
def ratePosted (c : TestContext) (a e : PressureTemp) (s : State) : State :=
  postEndReason s.leak.attempts .completed
    (postLeak (fun l => { l with
      rate := some (measuredRate c a e), rise := (leakRate a e (measureTime c.copy)).isNone }) s)

theorem leakCompute_fails {c : TestContext} {a e : PressureTemp} (h : rateLimit c.copy < measuredRate c a e) (s : State) :
    leakCompute c a e s =
      leakEnterVent (setLeakOutcome .fail (appendFault .leakRate (measuredRate c a e) (ratePosted c a e s))) := by
  have hattempts : (postLeak (fun l => { l with
      rate := some (measuredRate c a e), rise := (leakRate a e (measureTime c.copy)).isNone }) s).leak.attempts =
      s.leak.attempts := by simp
  rw [ratePosted, ← hattempts]
  exact congrArg leakEnterVent (if_pos h)

theorem leakCompute_passes {c : TestContext} {a e : PressureTemp} (h : ¬rateLimit c.copy < measuredRate c a e) (s : State) :
    leakCompute c a e s = leakEnterVent (setLeakOutcome .pass (ratePosted c a e s)) := by
  have hattempts : (postLeak (fun l => { l with
      rate := some (measuredRate c a e), rise := (leakRate a e (measureTime c.copy)).isNone }) s).leak.attempts =
      s.leak.attempts := by simp
  rw [ratePosted, ← hattempts]
  exact congrArg leakEnterVent (if_neg h)

/-- The computation leads to VENT with the outcome of its rate. -/
theorem leakCompute_leak (c : TestContext) (a e : PressureTemp) (s : State) :
    (leakCompute c a e s).leak.phase = .vent ∧ (leakCompute c a e s).leak.burst = none ∧
    (leakCompute c a e s).leak.outcome = some (rateOutcome c (measuredRate c a e)) := by
  have hvent : ∀ u : State, (leakEnterVent u).leak.phase = .vent ∧ (leakEnterVent u).leak.burst = none ∧
      (leakEnterVent u).leak.outcome = u.leak.outcome := fun u => by
    rw [leakEnterVent_leak]
    simp
  by_cases h : rateLimit c.copy < measuredRate c a e
  · rw [leakCompute_fails h, rateOutcome, if_pos h]
    obtain ⟨hphase, hnone, houtcome⟩ :=
      hvent (setLeakOutcome .fail (appendFault .leakRate (measuredRate c a e) (ratePosted c a e s)))
    exact ⟨hphase, hnone, houtcome.trans (by rw [setLeakOutcome_leak])⟩
  · rw [leakCompute_passes h, rateOutcome, if_neg h]
    obtain ⟨hphase, hnone, houtcome⟩ := hvent (setLeakOutcome .pass (ratePosted c a e s))
    exact ⟨hphase, hnone, houtcome.trans (by rw [setLeakOutcome_leak])⟩

/-- The leak section with the rate and the end reason. -/
def rateWith (c : TestContext) (a e : PressureTemp) (attempt : Nat) (l : LeakSection) : LeakSection :=
  endWith attempt .completed { l with
    rate := some (measuredRate c a e), rise := (leakRate a e (measureTime c.copy)).isNone }

theorem Testing.ratePosted {s : State} {i : Fin 16} {r : Record} (h : Testing s i r) (c : TestContext) (a e : PressureTemp) :
    Testing (ratePosted c a e s) i { r with leak := r.leak.map (rateWith c a e s.leak.attempts) } := by
  have hposted := (h.postLeak fun l => { l with
    rate := some (measuredRate c a e), rise := (leakRate a e (measureTime c.copy)).isNone }).postEndReason
      s.leak.attempts .completed
  rw [Option.map_map] at hposted
  exact hposted

/-- The record of a test at the end of its leak measurement. -/
theorem Testing.leakCompute {s : State} {i : Fin 16} {r : Record} (h : Testing s i r) (hroom : r.faults.length < 6)
    {c : TestContext} (hc : s.ctx = some c) (a e : PressureTemp) :
    Testing (leakCompute c a e s) i { r with
      leak := r.leak.map fun l =>
        { rateWith c a e s.leak.attempts l with outcome := some (rateOutcome c (measuredRate c a e)) }
      faults :=
        if rateLimit c.copy < measuredRate c a e then r.faults ++ [⟨.leakRate, c.step, measuredRate c a e⟩] else r.faults } := by
  have hposted := h.ratePosted c a e
  have hstep : currentStep (Machine.ratePosted c a e s) = c.step := by
    simp [currentStep, Machine.ratePosted, hc]
  by_cases hfails : rateLimit c.copy < measuredRate c a e
  · have hentry := ((hposted.appendFault_room hroom .leakRate (measuredRate c a e)).setLeakOutcome .fail).leakEnterVent
    rw [hstep, Option.map_map] at hentry
    rw [leakCompute_fails hfails, rateOutcome, if_pos hfails, if_pos hfails]
    exact hentry
  · have hpassed := (hposted.setLeakOutcome .pass).leakEnterVent
    rw [Option.map_map] at hpassed
    rw [leakCompute_passes hfails, rateOutcome, if_neg hfails, if_neg hfails]
    exact hpassed

end Sys2Proof.Machine
end


section
/-! PROOFS. A completion that LEAK asked for (R111, R113, R115): O31. -/

namespace Sys2Proof.Machine

/-! ## A LEAK completion -/

theorem leakReading_measure_phase {s : State} {ch : Channel} {v : Nat} {c : TestContext} {kind : BurstKind}
    (hphase : s.leak.phase = .measure) (hc : s.ctx = some c) (hburst : s.leak.burst = some kind)
    (h : ¬BurstFull c (conversionAdded ch v s)) : (leakReading ch v s).leak.phase ≠ .vent := by
  rw [leakReading_measure_short hphase hc hburst h, conversionAdded, State.withLeak_leak]
  cases ch <;> simp [leakAddConversion, hphase]

/-- The state at a LEAK reading that is expected, with the converter already counted. -/
def readingState (ch : Channel) (v : Nat) (s : State) : State := s.withConv (counted ⟨.leak, ch, true⟩ v s.conv)

theorem delivered_leak (ch : Channel) (v : Nat) (s : State) :
    delivered ⟨.leak, ch, true⟩ v s = passPressure ⟨.leak, ch, true⟩ v (leakReading ch v (readingState ch v s)) := rfl

section
variable {s : State} {c : TestContext} {kind : BurstKind} (hphase : s.leak.phase = .measure) (hc : s.ctx = some c)
  (hburst : s.leak.burst = some kind)
include hphase hc hburst

/-- A conversion that does not complete its burst is added to it, and that is all. -/
theorem completed_burst_short {ch : Channel} {v : Nat} (h : ¬BurstFull c (conversionAdded ch v s)) :
    (completed ⟨.leak, ch, true⟩ v s).leak = leakAddConversion ch v s.leak := by
  have hshort : ¬BurstFull c (conversionAdded ch v (readingState ch v s)) := h
  have hadded := leakReading_measure_short (s := readingState ch v s) hphase hc hburst hshort
  obtain ⟨hleak, -⟩ := passPressure_outside (c := ⟨.leak, ch, true⟩)
    (leakReading_measure_phase (s := readingState ch v s) hphase hc hburst hshort) v
  rw [hadded] at hleak
  rw [completed, State.withConv_leak, delivered_leak, hadded, hleak]
  rfl

/-- The last TA of a burst completes it. -/
theorem completed_burst_full {v : Nat} (h : BurstFull c (conversionAdded .ta v s)) :
    (completed ⟨.leak, .ta, true⟩ v s).leak =
      (leakBurstDone c kind (conversionAdded .ta v (readingState .ta v s))).leak ∧
    (completed ⟨.leak, .ta, true⟩ v s).queue =
      (leakBurstDone c kind (conversionAdded .ta v (readingState .ta v s))).queue := by
  have hfull : BurstFull c (conversionAdded .ta v (readingState .ta v s)) := h
  have hdone := leakReading_measure_full (s := readingState .ta v s) hphase hc hburst hfull
  rw [completed, State.withConv_leak, State.withConv_queue, delivered_leak, hdone,
    passPressure_other (by simp)]
  exact ⟨rfl, rfl⟩

end

theorem testing_conversionAdded {s : State} {i : Fin 16} {r : Record} (h : Testing s i r) (ch : Channel) (v : Nat) :
    Testing (conversionAdded ch v (readingState ch v s)) i r := h.congr rfl

section
variable {s : State} {c : TestContext} {v : Nat} (hphase : s.leak.phase = .measure) (hc : s.ctx = some c)
  (hfull : BurstFull c (conversionAdded .ta v s))
include hphase hc hfull

/-- A complete burst with its range mark set interrupts the attempt as SENSOR. -/
theorem completed_burst_sensor {kind : BurstKind} (hburst : s.leak.burst = some kind)
    (hmark : (conversionAdded .ta v s).leak.rangeMark = true) :
    (completed ⟨.leak, .ta, true⟩ v s).leak.burst = none ∧ (completed ⟨.leak, .ta, true⟩ v s).leak.measure = .stopped ∧
    (s.leak.attempts = 1 → (completed ⟨.leak, .ta, true⟩ v s).leak.phase = .wait ∧
      (completed ⟨.leak, .ta, true⟩ v s).leak.outcome = s.leak.outcome) ∧
    (s.leak.attempts ≠ 1 → (completed ⟨.leak, .ta, true⟩ v s).leak.phase = .vent ∧
      (completed ⟨.leak, .ta, true⟩ v s).leak.outcome = some .notDecided) ∧
    ∀ i r, Testing s i r →
      Testing (completed ⟨.leak, .ta, true⟩ v s) i { r with leak := r.leak.map (interruptWith s.leak.attempts .sensor) } := by
  obtain ⟨hleak, hqueue⟩ := completed_burst_full hphase hc hburst hfull
  have hdone := leakBurstDone_sensor (s := conversionAdded .ta v (readingState .ta v s)) hmark c kind
  rw [hdone] at hleak hqueue
  obtain ⟨-, hmeasure, hnone, -, hfirst, hsecond⟩ :=
    attemptInterrupted_leakInterrupt .sensor (conversionAdded .ta v (readingState .ta v s))
  rw [hleak]
  refine ⟨hnone, hmeasure, fun h => ?_, fun h => ?_, fun i r h => ?_⟩
  · obtain ⟨hwait, houtcome, -⟩ := hfirst h
    exact ⟨hwait, houtcome⟩
  · obtain ⟨hvent, houtcome, -⟩ := hsecond h
    exact ⟨hvent, houtcome⟩
  · exact ((testing_conversionAdded h .ta v).leakInterrupt .sensor).congr hqueue

/-- A good start burst starts the measuring span. -/
theorem completed_burst_start (hburst : s.leak.burst = some .start)
    (hmark : (conversionAdded .ta v s).leak.rangeMark = false) :
    (completed ⟨.leak, .ta, true⟩ v s).leak =
      { (conversionAdded .ta v s).leak with
        burst := none, startValues := some (burstAverages c (conversionAdded .ta v s).leak)
        measure := .running (measureTime c.copy) } ∧
    ∀ i r, Testing s i r →
      Testing (completed ⟨.leak, .ta, true⟩ v s) i { r with
        leak := r.leak.map fun l => { l with startValues := some (burstAverages c (conversionAdded .ta v s).leak) } } := by
  obtain ⟨hleak, hqueue⟩ := completed_burst_full hphase hc hburst hfull
  have hdone := leakBurstDone_start (s := conversionAdded .ta v (readingState .ta v s)) hmark c
  rw [hdone] at hleak hqueue
  have hposted : ∀ (f : LeakSection → LeakSection) (u : State), (postLeak f u).leak = u.leak := fun f u => by simp
  refine ⟨hleak.trans (hposted _ _), fun i r h => ?_⟩
  exact (((testing_conversionAdded h .ta v).withLeak _).postLeak _).congr hqueue

/-- A good end burst gives the rate and the outcome. -/
theorem completed_burst_finish (hburst : s.leak.burst = some .finish)
    (hmark : (conversionAdded .ta v s).leak.rangeMark = false) {a e : PressureTemp} (ha : s.leak.startValues = some a)
    (he : burstAverages c (conversionAdded .ta v s).leak = e) :
    (completed ⟨.leak, .ta, true⟩ v s).leak.phase = .vent ∧ (completed ⟨.leak, .ta, true⟩ v s).leak.burst = none ∧
    (completed ⟨.leak, .ta, true⟩ v s).leak.outcome = some (rateOutcome c (measuredRate c a e)) ∧
    ∀ i r, Testing s i r → r.faults.length < 6 →
      Testing (completed ⟨.leak, .ta, true⟩ v s) i { r with
        leak := r.leak.map fun l =>
          { rateWith c a e s.leak.attempts { l with endValues := some e } with
            outcome := some (rateOutcome c (measuredRate c a e)) }
        faults :=
          if rateLimit c.copy < measuredRate c a e then r.faults ++ [⟨.leakRate, c.step, measuredRate c a e⟩]
          else r.faults } := by
  obtain ⟨hleak, hqueue⟩ := completed_burst_full hphase hc hburst hfull
  have hdone := leakBurstDone_finish (s := conversionAdded .ta v (readingState .ta v s)) hmark c ha
  have he' : burstAverages c (conversionAdded .ta v (readingState .ta v s)).leak = e := he
  rw [he'] at hdone
  obtain ⟨u, hu⟩ : ∃ u, u = postLeak (fun l => { l with endValues := some e })
      ((conversionAdded .ta v (readingState .ta v s)).withLeak
        { (conversionAdded .ta v (readingState .ta v s)).leak with burst := none }) := ⟨_, rfl⟩
  rw [hdone, ← hu] at hleak hqueue
  obtain ⟨hvent, hnone, houtcome⟩ := leakCompute_leak c a e u
  have huctx : u.ctx = some c := by
    rw [hu]
    simpa [conversionAdded, readingState] using hc
  have huattempts : u.leak.attempts = s.leak.attempts := by simp [hu, conversionAdded, readingState, leakAddConversion]
  rw [hleak]
  refine ⟨hvent, hnone, houtcome, fun i r h hroom => ?_⟩
  have hposted : Testing u i { r with leak := r.leak.map fun l => { l with endValues := some e } } :=
    hu ▸ ((testing_conversionAdded h .ta v).withLeak _).postLeak fun l => { l with endValues := some e }
  have hcomputed := hposted.leakCompute hroom huctx a e
  rw [huattempts, Option.map_map] at hcomputed
  exact hcomputed.congr hqueue

end

/-! ## The pressure in FILL and in VENT -/

theorem completed_fill {s : State} {c : TestContext} (hc : s.ctx = some c) (hphase : s.leak.phase = .fill)
    (hburst : s.leak.burst = none) (v : Nat) :
    (v < fillTarget c.copy → (completed ⟨.leak, .p, true⟩ v s).leak = { s.leak with lastFill := some v }) ∧
    (fillTarget c.copy ≤ v → (completed ⟨.leak, .p, true⟩ v s).conv.waiting.leak = none ∧
      (completed ⟨.leak, .p, true⟩ v s).leak =
        { s.leak with
          phase := .settle, lastFill := some v, fill := .stopped, measure := .stopped, request := .stopped
          settle :=
            if s.mode.mode = .run ∧ leakQuiet c.copy c.step = true then .running (leakSettleTime c.copy * 100)
            else .stopped }) := by
  have hreading : leakReading .p v (readingState .p v s) = leakFillReading v (readingState .p v s) := by
    have hfill : (readingState .p v s).leak.phase = .fill := hphase
    rw [leakReading, hfill]
    rfl
  refine ⟨fun hlow => ?_, fun hhigh => ?_⟩
  · have hbelow := leakFillReading_below (s := readingState .p v s) hc hlow
    obtain ⟨hleak, -⟩ := passPressure_outside (c := ⟨.leak, .p, true⟩)
      (s := (readingState .p v s).withLeak { s.leak with lastFill := some v }) (by simp [hphase]) v
    rw [completed, State.withConv_leak, delivered_leak, hreading, hbelow]
    exact hleak
  · obtain ⟨hwaiting, hfull⟩ := leakFillReading_full (s := readingState .p v s) hc hhigh hburst
    obtain ⟨hleak, -, -, hasked⟩ := passPressure_outside (c := ⟨.leak, .p, true⟩)
      (s := leakFillReading v (readingState .p v s)) (by rw [hfull]; simp) v
    refine ⟨?_, ?_⟩
    · refine grant_waiting (r := .leak) ?_
      rw [delivered_leak, hreading]
      exact hasked.trans hwaiting
    · rw [completed, State.withConv_leak, delivered_leak, hreading, hleak, hfull]
      rfl

/-- A P reading that is not for the Leak Controller's own phase changes nothing before it is passed on, but for a CONVERT mark. -/
theorem deliver_vent {s : State} {r : Requester} (hr : r = .leak ∨ r = .spot) (hphase : s.leak.phase = .vent) (x : Bool)
    (v : Nat) :
    (deliver ⟨r, .p, x⟩ v s).leak = s.leak ∧ (deliver ⟨r, .p, x⟩ v s).ctx = s.ctx ∧
    (deliver ⟨r, .p, x⟩ v s).zero = s.zero ∧ (deliver ⟨r, .p, x⟩ v s).mode = s.mode := by
  rcases hr with rfl | rfl
  · have hreading : leakReading .p v s = s := by rw [leakReading, hphase]
    simp only [deliver, hreading, ite_self, and_self]
  · exact ⟨rfl, rfl, rfl, rfl⟩

/-- A P reading in VENT: below the threshold it is DONE, which answers VENT WAIT. -/
theorem passPressure_vent {s : State} {c : Conversion} (hp : c.channel = .p) (hphase : s.leak.phase = .vent) (v : Nat) :
    (ventThreshold s.zero ≤ v → (passPressure c v s).leak = s.leak ∧ (passPressure c v s).ctx = s.ctx) ∧
    (v < ventThreshold s.zero →
      (passPressure c v s).leak = { leftLeak s.leak with phase := .done } ∧
      (∀ x, s.ctx = some x → x.phase ≠ .finish .ventWait → (passPressure c v s).ctx = some x) ∧
      ∀ x, s.ctx = some x → x.phase = .finish .ventWait → s.mode.mode = .pause →
        (passPressure c v s).ctx = some { x with phase := .finish .zeroWait, requestHeld := true }) := by
  rw [passPressure, if_pos hp]
  refine ⟨fun hhigh => ?_, fun hlow => ?_⟩
  · rw [ventReading_of_high hhigh]
    simp
  · rw [ventReading_low hphase hlow]
    simp only [completionCheck_frame, leakDoneReport_frame]
    refine ⟨rfl, fun x hx hwait => ?_, fun x hx hwait hpause => ?_⟩
    · rw [leakDoneReport_waits (s := ventDone s) hx hwait]
      exact hx
    · have hrun : (ventDone s).mode.mode ≠ .run := by
        rw [ventDone, State.withLeak_mode, leakLeave, State.withLeak_mode, withdraw, State.withConv_mode, hpause]
        decide
      rw [leakDoneReport_asks (s := ventDone s) hx hwait, enterZeroWait_held hrun]
      rfl

end Sys2Proof.Machine
end


section
/-! PROOFS. The oil readings (R55, R76, R77): O31. -/

namespace Sys2Proof.Machine

/-! ## The oil supervision through an entry to STOP -/

theorem endContext_oil (s : State) :
    (endContext s).sup.lastOil = s.sup.lastOil ∧ (s.sup.oilCount = 0 → (endContext s).sup.oilCount = 0) := by
  unfold endContext
  split
  · rw [referenceChange, judgeMonitors_eq]
    exact ⟨rfl, fun _ => rfl⟩
  · exact ⟨rfl, id⟩

theorem endTest_oil (s : State) :
    (endTest s).sup.lastOil = s.sup.lastOil ∧ (s.sup.oilCount = 0 → (endTest s).sup.oilCount = 0) := by
  have hsame : ∀ t : State, t.sup = s.sup → (endContext t).sup.lastOil = s.sup.lastOil ∧
      (s.sup.oilCount = 0 → (endContext t).sup.oilCount = 0) := fun t ht => ht ▸ endContext_oil t
  unfold endTest
  split
  · split
    · exact hsame _ (by simp)
    · exact hsame s rfl
  · exact hsame s rfl

theorem setMode_oil (m : Mode) (s : State) :
    (setMode m s).sup.lastOil = s.sup.lastOil ∧ (s.sup.oilCount = 0 → (setMode m s).sup.oilCount = 0) := by
  obtain ⟨hlast, -⟩ := setMode_sup m s
  obtain ⟨-, -, -, -, -, -, -, -, hleft⟩ := modeLeft_frame m s
  have hwritten : (modeWritten m s).sup = (modeLeft m s).sup := rfl
  refine ⟨hlast, fun h => ?_⟩
  rw [setMode_eq]
  split
  · rfl
  · rw [hwritten, hleft]
    exact h

/-- STOP keeps the last oil reading, and an oil shutdown count of 0. -/
theorem enterStopped_oil (m : Mode) (s : State) :
    (enterStopped m s).sup.lastOil = s.sup.lastOil ∧
    (s.sup.oilCount = 0 → (enterStopped m s).sup.oilCount = 0) := by
  have hdropped : (dropTarget (leakToVent s)).sup = s.sup := by simp
  obtain ⟨hend, hendCount⟩ := endTest_oil (dropTarget (leakToVent s))
  obtain ⟨hmode, hmodeCount⟩ := setMode_oil m (endTest (dropTarget (leakToVent s)))
  obtain ⟨-, -, hjudgedCount, hjudged⟩ := judgeMonitors_supervision
    ((setMode m (endTest (dropTarget (leakToVent s)))).withDemand
      (demandStopped (setMode m (endTest (dropTarget (leakToVent s)))).demand))
  rw [hdropped] at hend hendCount
  exact ⟨hjudged.trans (hmode.trans hend), fun h => hjudgedCount.trans (hmodeCount (hendCount h))⟩

theorem active_of_driveEnable {s : State} (h : driveEnable s = true) : s.mode.mode.active = true := by
  rw [driveEnable, Bool.and_eq_true] at h
  exact h.1

/-- A STOP-class report while DRIVE ENABLE is asserted and the oil shutdown count is 0. -/
theorem latch_oil {k : LatchKind} (hk : k.stopClass = true) {s : State} (hactive : s.mode.mode.active = true)
    (hcount : s.sup.oilCount = 0) (v : Nat) :
    (latch k v s).mode.mode = .stop ∧ (latch k v s).ctx = none ∧ (latch k v s).sup.oilCount = 0 ∧
    (latch k v s).sup.lastOil = s.sup.lastOil := by
  obtain ⟨hlast, hzero⟩ := enterStopped_oil .stop (reported k v s)
  rw [reported_sup] at hlast hzero
  rw [latch_stops hk hactive]
  exact ⟨enterStopped_mode _ _, enterStopped_ctx _ _, hzero hcount, hlast⟩

/-! ## The thresholds of a test (R77) -/

/-- OIL PREWARN's judgement of a reading. -/
def oilWarned (c : TestContext) (v : Nat) (s : State) : State :=
  if oilPrewarn c.copy ≤ v then reported .oilPrewarn v s else s

@[simp] theorem oilWarned_frame (c : TestContext) (v : Nat) (s : State) :
    (oilWarned c v s).mode = s.mode ∧ (oilWarned c v s).ctx = s.ctx ∧ (oilWarned c v s).queue = s.queue := by
  unfold oilWarned
  split
  · exact ⟨by simp, by simp, by rw [reported_queue, if_pos (.inr rfl)]⟩
  · exact ⟨rfl, rfl, rfl⟩

theorem oilWarned_sup (c : TestContext) (v : Nat) (s : State) :
    (oilWarned c v s).sup =
      { s.sup with latches := (oilWarned c v s).sup.latches, filters := (oilWarned c v s).sup.filters } := by
  unfold oilWarned
  split
  · rw [reported_sup]
  · rfl

theorem latchValue_oilWarned (c : TestContext) (v : Nat) (s : State) (k : LatchKind) :
    latchValue (oilWarned c v s) k =
      if k = .oilPrewarn ∧ oilPrewarn c.copy ≤ v then some ((latchValue s .oilPrewarn).getD v) else latchValue s k := by
  unfold oilWarned
  by_cases h : oilPrewarn c.copy ≤ v
  · rw [if_pos h, latchValue_reported]
    simp [h]
  · rw [if_neg h, if_neg fun hk => h hk.2]

theorem oilThresholds_warned (c : TestContext) (v : Nat) (s : State) :
    oilThresholds c v s =
      if oilShutdown c.copy ≤ v then
        if s.sup.oilCount = 0 then (oilWarned c v s).withSup { (oilWarned c v s).sup with oilCount := 1 }
        else latch .oilShutdown v ((oilWarned c v s).withSup { (oilWarned c v s).sup with oilCount := 0 })
      else (oilWarned c v s).withSup { (oilWarned c v s).sup with oilCount := 0 } := by
  have hwarned : (if oilPrewarn c.copy ≤ v then latch .oilPrewarn v s else s) = oilWarned c v s := by
    rw [oilWarned, latch_eq]
    rfl
  have hcount : (oilWarned c v s).sup.oilCount = s.sup.oilCount := by rw [oilWarned_sup]
  rw [oilThresholds, hwarned]
  dsimp only
  rw [hcount]

/-- The first reading at or above OIL SHUTDOWN is counted, and one below it ends the count. -/
theorem oilThresholds_counts {c : TestContext} {v : Nat} {s : State}
    (h : v < oilShutdown c.copy ∨ s.sup.oilCount = 0) :
    oilThresholds c v s =
      (oilWarned c v s).withSup { (oilWarned c v s).sup with oilCount := if v < oilShutdown c.copy then 0 else 1 } := by
  rw [oilThresholds_warned]
  by_cases hlow : v < oilShutdown c.copy
  · rw [if_neg (by omega), if_pos hlow]
  · rw [if_pos (by omega), if_pos (h.resolve_left hlow), if_neg hlow]

/-- The second in succession shuts down. -/
theorem oilThresholds_shuts {c : TestContext} {v : Nat} {s : State} (h : oilShutdown c.copy ≤ v)
    (hcount : s.sup.oilCount ≠ 0) :
    oilThresholds c v s =
      latch .oilShutdown v ((oilWarned c v s).withSup { (oilWarned c v s).sup with oilCount := 0 }) := by
  rw [oilThresholds_warned, if_pos h, if_neg hcount]

/-- Only OIL PREWARN and OIL SHUTDOWN can be latched by the thresholds. -/
theorem latchValue_oilThresholds {c : TestContext} {v : Nat} {s : State} {k : LatchKind} (hk : k ≠ .oilShutdown) :
    latchValue (oilThresholds c v s) k = latchValue (oilWarned c v s) k := by
  by_cases h : v < oilShutdown c.copy ∨ s.sup.oilCount = 0
  · rw [oilThresholds_counts h]
    rfl
  · rw [oilThresholds_shuts (by omega) (by omega), latchValue_latch, if_neg hk]
    rfl

theorem oilThresholds_lastOil {c : TestContext} {v : Nat} {s : State} (hactive : s.mode.mode.active = true) :
    (oilThresholds c v s).sup.lastOil = s.sup.lastOil := by
  have hwarned : (oilWarned c v s).sup.lastOil = s.sup.lastOil := by rw [oilWarned_sup]
  by_cases h : v < oilShutdown c.copy ∨ s.sup.oilCount = 0
  · rw [oilThresholds_counts h]
    exact hwarned
  · obtain ⟨-, -, -, hlast⟩ := latch_oil (k := .oilShutdown) rfl
      (s := (oilWarned c v s).withSup { (oilWarned c v s).sup with oilCount := 0 }) (by simpa using hactive) rfl v
    rw [oilThresholds_shuts (by omega) (by omega), hlast]
    exact hwarned

/-! ## An oil reading (R76) -/

/-- The stale timer after a reading. -/
def staleAfter (s : State) : Timer :=
  if driveEnable s && !latchSet s .tempStale then .running 500 else s.sup.stale

/-- An oil reading before its judgement. -/
def oilTaken (expected : Bool) (v : Nat) (s : State) : State :=
  let s' := s.withSup { s.sup with lastOil := some v, stale := staleAfter s }
  match s.ctx with
  | some c => postRunIn (oilSection c (driveEnable s && expected) v) s'
  | none => s'

theorem oilReading_eq (x : Bool) (v : Nat) (s : State) :
    oilReading x v s = if driveEnable s && x then oilJudge v (oilTaken x v s) else oilTaken x v s := rfl

@[simp] theorem oilTaken_frame (x : Bool) (v : Nat) (s : State) :
    (oilTaken x v s).mode = s.mode ∧ (oilTaken x v s).ctx = s.ctx ∧ (oilTaken x v s).events = s.events ∧
    (oilTaken x v s).sup = { s.sup with lastOil := some v, stale := staleAfter s } := by
  unfold oilTaken
  dsimp only
  split <;> simp

theorem testing_oilTaken {s : State} {c : TestContext} (hc : s.ctx = some c) {i : Fin 16} {r : Record} (h : Testing s i r)
    (x : Bool) (v : Nat) :
    Testing (oilTaken x v s) i { r with runIn := r.runIn.map (oilSection c (driveEnable s && x) v) } := by
  have htaken : oilTaken x v s = postRunIn (oilSection c (driveEnable s && x) v)
      (s.withSup { s.sup with lastOil := some v, stale := staleAfter s }) := by
    simp only [oilTaken, hc]
  rw [htaken]
  exact (h.congr (t := s.withSup { s.sup with lastOil := some v, stale := staleAfter s }) rfl).postRunIn _

theorem oilReading_unjudged {x : Bool} {s : State} (h : ¬(x = true ∧ driveEnable s = true)) (v : Nat) :
    oilReading x v s = oilTaken x v s := by
  rw [oilReading_eq, if_neg (by rwa [Bool.and_eq_true, and_comm])]

theorem oilReading_judged {x : Bool} {s : State} (h : x = true ∧ driveEnable s = true) (v : Nat) :
    oilReading x v s = oilJudge v (oilTaken x v s) := by
  rw [oilReading_eq, if_pos (by rwa [Bool.and_eq_true, and_comm])]

theorem fits_iff (v : Nat) : temperatureInRange v = true ↔ 2330 ≤ v ∧ v ≤ 4230 := decide_eq_true_iff

theorem oilJudge_outside {v : Nat} (h : ¬temperatureInRange v = true) (s : State) :
    oilJudge v s = latch .sensor v (s.withSup { s.sup with oilCount := 0 }) := if_neg h

theorem oilJudge_noTest {v : Nat} (h : temperatureInRange v = true) {s : State} (hc : s.ctx = none) :
    oilJudge v s = s.withSup { s.sup with oilCount := 0 } := by
  rw [oilJudge, if_pos h, hc]

theorem oilJudge_test {v : Nat} (h : temperatureInRange v = true) {s : State} {c : TestContext} (hc : s.ctx = some c) :
    oilJudge v s = oilThresholds c v s := by
  rw [oilJudge, if_pos h, hc]

/-- Whatever an oil reading leads to, it is the last one. -/
theorem oilReading_lastOil (x : Bool) (v : Nat) (s : State) : (oilReading x v s).sup.lastOil = some v := by
  have htaken : (oilTaken x v s).sup.lastOil = some v := by simp
  by_cases hjudged : x = true ∧ driveEnable s = true
  · have hactive : (oilTaken x v s).mode.mode.active = true := by simpa using active_of_driveEnable hjudged.2
    rw [oilReading_judged hjudged]
    by_cases hfits : temperatureInRange v = true
    · cases hc : (oilTaken x v s).ctx with
      | none => rw [oilJudge_noTest hfits hc]; exact htaken
      | some c => rw [oilJudge_test hfits hc, oilThresholds_lastOil hactive, htaken]
    · obtain ⟨-, -, -, hlast⟩ := latch_oil (k := .sensor) rfl
        (s := (oilTaken x v s).withSup { (oilTaken x v s).sup with oilCount := 0 }) hactive rfl v
      rw [oilJudge_outside hfits, hlast]
      exact htaken
  · rw [oilReading_unjudged hjudged, htaken]

end Sys2Proof.Machine
end


section
/-! PROOFS. The completions of ZERO, SPOT and OIL (spec/09): O31. -/

namespace Sys2Proof.Machine

/-! ## A ZERO conversion (R126) -/

theorem answerOf_leak (k : CheckKind) (s : State) : (answerOf k s).leak = s.leak := by
  unfold answerOf
  split
  · simp
  · rfl

theorem answerOf_target (k : CheckKind) (s : State) : (answerOf k s).mode.target = s.mode.target := by
  unfold answerOf zeroAnswer decisionDue
  split
  · split
    · split
      · split
        · simp [normalDecision, setMode_controller, toFinishStage]
        · rfl
      · rfl
    · rfl
  · rfl

/-- After the judgement of a check, of which the Mode Controller and VENT have nothing pending, both have nothing to do, but for
the DONE of VENT that HALT may enter, which no test waits for. -/
theorem judgeCheck_settled {s : State} (htarget : s.mode.target = none) (hphase : s.leak.phase ≠ .vent) (k : CheckKind) :
    (judgeCheck k s).mode.target = none ∧ ((judgeCheck k s).leak.phase = .vent → (judgeCheck k s).ctx = none) := by
  have hgood : ∀ u : State, u.mode = s.mode → u.leak = s.leak →
      (answerOf k (goodJudged k (checkAverage s) u)).mode.target = none ∧
      ((answerOf k (goodJudged k (checkAverage s) u)).leak.phase = .vent →
        (answerOf k (goodJudged k (checkAverage s) u)).ctx = none) := fun u hmode hleak => by
    obtain ⟨hjudged, -, hkept, -⟩ := goodJudged_rest k (checkAverage s) u
    rw [answerOf_target, answerOf_leak, hjudged, hkept, hmode, hleak]
    exact ⟨htarget, fun h => absurd h hphase⟩
  by_cases hk : k = .capture
  · subst hk
    exact hgood (captured s) rfl rfl
  · by_cases h : CheckGood s
    · rw [judgeCheck_good hk h]
      exact hgood (checkEnded s) rfl rfl
    · cases hpolicy : s.zero.policy with
      | halt =>
        obtain ⟨-, hnone, hctx, -⟩ := enterHalt_spec (failedJudged k (checkAverage s) (checkEnded s))
        rw [judgeCheck_halt hk h hpolicy]
        exact ⟨hnone, fun _ => hctx⟩
      | flag =>
        obtain ⟨hmode, -⟩ := failedJudged_rest k (checkAverage s) (checkEnded s)
        have hleak : (failedJudged k (checkAverage s) (checkEnded s)).leak = s.leak := by
          simp only [failedJudged, failedPosted, raise_frame, State.withZero_leak]
          split <;> simp [checkEnded]
        have hflag : (failedJudged k (checkAverage s) (checkEnded s)).zero.policy = .flag := by
          rw [failedJudged_zero]
          exact hpolicy
        rw [judgeCheck_failed hk h, applyPolicy_flag hflag, answerOf_target, answerOf_leak, State.withZero_mode,
          State.withZero_leak, hmode, hleak]
        exact ⟨htarget, fun hvent => absurd hvent hphase⟩

/-- A P reading that no target and no VENT WAIT waits for changes at most the Leak Controller and the converter. -/
theorem passPressure_settled {c : Conversion} {s : State} (htarget : s.mode.target = none)
    (hvent : s.leak.phase = .vent → s.ctx = none) (v : Nat) :
    ∃ a l, passPressure c v s = (s.withConv a).withLeak l := by
  unfold passPressure
  split
  · have hreading : ∃ a l, ventReading v s = (s.withConv a).withLeak l := by
      by_cases h : s.leak.phase = .vent ∧ v < ventThreshold s.zero
      · rw [ventReading_low h.1 h.2, leakDoneReport_noTest (s := ventDone s) (hvent h.1)]
        exact ⟨_, _, rfl⟩
      · rw [ventReading, if_neg h]
        exact ⟨s.conv, s.leak, rfl⟩
    obtain ⟨a, l, h⟩ := hreading
    rw [h, completionCheck_untargeted (s := (s.withConv a).withLeak l) htarget]
    exact ⟨a, l, rfl⟩
  · exact ⟨s.conv, s.leak, rfl⟩

/-! ## A SPOT value (R142) -/

theorem mark_completed_spot (ch : Channel) (x : Bool) (v : Nat) (s : State) (q : Port) :
    mark (completed ⟨.spot, ch, x⟩ v s) 9 q =
      if (routeOf s 9).has q = true then some (.convert ch v) else mark s 9 q := by
  have hraised : mark (raise (.convert ch v) s) 9 q =
      if (routeOf s 9).has q = true then some (.convert ch v) else mark s 9 q := by
    rw [mark_raise]
    by_cases h : (routeOf s 9).has q = true
    · rw [if_pos ⟨rfl, h⟩, if_pos h]
    · rw [if_neg fun hraised => h hraised.2, if_neg h]
  have hpassed : ∀ u : State, MarksKept 9 u (passPressure ⟨.spot, ch, x⟩ v u) := fun u => by
    unfold passPressure
    split
    · exact (marksKept_ventReading (by decide) (by decide) v u).trans (marksKept_completionCheck (by decide) (by decide) _)
    · exact .of_events rfl
  exact ((hpassed _).2 q).trans hraised

/-! ## The completions of OIL (R55, R76, R77) -/

theorem staleAfter_on {s : State} (h : driveEnable s = true) :
    staleAfter s = if latchSet s .tempStale then s.sup.stale else .running 500 := by
  rw [staleAfter, h]
  cases latchSet s .tempStale <;> rfl

theorem staleAfter_off {s : State} (h : driveEnable s = false) : staleAfter s = s.sup.stale := by
  rw [staleAfter, h]
  rfl

/-- A withdrawn reading, or one while DRIVE ENABLE is not asserted. -/
theorem oilReading_unjudged_spec {x : Bool} {s : State} (h : ¬(x = true ∧ driveEnable s = true)) (v : Nat) :
    (oilReading x v s).mode = s.mode ∧ (oilReading x v s).ctx = s.ctx ∧ (oilReading x v s).events = s.events ∧
    (oilReading x v s).sup = { s.sup with lastOil := some v, stale := staleAfter s } ∧
    ∀ c i r, s.ctx = some c → Testing s i r →
      Testing (oilReading x v s) i { r with runIn := r.runIn.map (oilSection c false v) } := by
  have hfalse : (driveEnable s && x) = false := by
    rw [Bool.eq_false_iff, Ne, Bool.and_eq_true, and_comm]
    exact h
  rw [oilReading_unjudged h]
  refine ⟨by simp, by simp, by simp, by simp, fun c i r hc hr => ?_⟩
  have htaken := testing_oilTaken hc hr x v
  rwa [hfalse] at htaken

section
variable {x : Bool} {s : State} {v : Nat} (hjudged : x = true ∧ driveEnable s = true)
include hjudged

/-- A judged reading out of range is SENSOR's. -/
theorem oilReading_outside_spec (hfits : ¬temperatureInRange v = true) :
    (oilReading x v s).mode.mode = .stop ∧ (oilReading x v s).sup.oilCount = 0 ∧
    latchValue (oilReading x v s) .sensor = some ((latchValue s .sensor).getD v) ∧
    ∀ k, k ≠ .sensor → latchValue (oilReading x v s) k = latchValue s k := by
  have hactive : (oilTaken x v s).mode.mode.active = true := by simpa using active_of_driveEnable hjudged.2
  have hlatches : ∀ k, latchValue ((oilTaken x v s).withSup { (oilTaken x v s).sup with oilCount := 0 }) k =
      latchValue s k := fun k => latchValue_congr (by simp) k
  obtain ⟨hstop, -, hcount, -⟩ := latch_oil (k := .sensor) rfl
    (s := (oilTaken x v s).withSup { (oilTaken x v s).sup with oilCount := 0 }) hactive rfl v
  rw [oilReading_judged hjudged, oilJudge_outside hfits]
  refine ⟨hstop, hcount, ?_, fun k hk => ?_⟩
  · rw [latchValue_latch, if_pos rfl, hlatches]
  · rw [latchValue_latch, if_neg hk, hlatches]

/-- A judged reading in range without a test ends the count. -/
theorem oilReading_noTest_spec (hfits : temperatureInRange v = true) (hc : s.ctx = none) :
    (oilReading x v s).mode = s.mode ∧
    (oilReading x v s).sup = { s.sup with lastOil := some v, stale := staleAfter s, oilCount := 0 } := by
  rw [oilReading_judged hjudged, oilJudge_noTest hfits (by simpa using hc)]
  simp

theorem oilReading_test {c : TestContext} (hfits : temperatureInRange v = true) (hc : s.ctx = some c) :
    oilReading x v s = oilThresholds c v (oilTaken x v s) := by
  rw [oilReading_judged hjudged, oilJudge_test hfits (by simpa using hc)]

section
variable {c : TestContext} (hfits : temperatureInRange v = true) (hc : s.ctx = some c)
include hfits hc

/-- The latches after a judged reading in range: OIL PREWARN by its threshold, and no other but OIL SHUTDOWN. -/
theorem latchValue_oilReading {k : LatchKind} (hk : k ≠ .oilShutdown) :
    latchValue (oilReading x v s) k =
      if k = .oilPrewarn ∧ oilPrewarn c.copy ≤ v then some ((latchValue s .oilPrewarn).getD v) else latchValue s k := by
  have hlatches : ∀ k, latchValue (oilTaken x v s) k = latchValue s k := fun k => latchValue_congr (by simp) k
  rw [oilReading_test hjudged hfits hc, latchValue_oilThresholds hk, latchValue_oilWarned, hlatches, hlatches]

/-- A judged reading that is counted, or that ends the count. -/
theorem oilReading_counts_spec (h : v < oilShutdown c.copy ∨ s.sup.oilCount = 0) :
    (oilReading x v s).mode = s.mode ∧ (oilReading x v s).ctx = s.ctx ∧ (oilReading x v s).sup.stale = staleAfter s ∧
    (oilReading x v s).sup.oilCount = (if v < oilShutdown c.copy then 0 else 1) ∧
    latchValue (oilReading x v s) .oilShutdown = latchValue s .oilShutdown ∧
    ∀ i r, Testing s i r → Testing (oilReading x v s) i { r with runIn := r.runIn.map (oilSection c true v) } := by
  have hcount : v < oilShutdown c.copy ∨ (oilTaken x v s).sup.oilCount = 0 := by simpa using h
  have htrue : (driveEnable s && x) = true := by rw [hjudged.1, hjudged.2]; rfl
  have hstale : (oilWarned c v (oilTaken x v s)).sup.stale = staleAfter s := by
    rw [oilWarned_sup]
    simp
  rw [oilReading_test hjudged hfits hc, oilThresholds_counts hcount]
  refine ⟨by simp, by simp, hstale, rfl, ?_, fun i r hr => ?_⟩
  · refine (latchValue_oilWarned c v (oilTaken x v s) .oilShutdown).trans ?_
    rw [if_neg (by simp)]
    exact latchValue_congr (by simp) _
  · have htaken := testing_oilTaken hc hr x v
    rw [htrue] at htaken
    exact htaken.congr (by simp)

/-- The second judged reading in succession at or above OIL SHUTDOWN stops. -/
theorem oilReading_shuts_spec (h : oilShutdown c.copy ≤ v) (hcount : s.sup.oilCount ≠ 0) :
    (oilReading x v s).mode.mode = .stop ∧ (oilReading x v s).ctx = none ∧ (oilReading x v s).sup.oilCount = 0 ∧
    latchValue (oilReading x v s) .oilShutdown = some ((latchValue s .oilShutdown).getD v) := by
  have hcount' : (oilTaken x v s).sup.oilCount ≠ 0 := by simpa using hcount
  obtain ⟨u, hu⟩ : ∃ u, u = (oilWarned c v (oilTaken x v s)).withSup
      { (oilWarned c v (oilTaken x v s)).sup with oilCount := 0 } := ⟨_, rfl⟩
  have hactive : u.mode.mode.active = true := by
    rw [hu]
    simpa using active_of_driveEnable hjudged.2
  have hlatches : latchValue u .oilShutdown = latchValue s .oilShutdown := by
    refine hu ▸ (latchValue_oilWarned c v (oilTaken x v s) .oilShutdown).trans ?_
    rw [if_neg (by simp)]
    exact latchValue_congr (by simp) _
  obtain ⟨hstop, hnone, hzero, -⟩ := latch_oil (k := .oilShutdown) rfl hactive (by rw [hu]; rfl) v
  rw [oilReading_test hjudged hfits hc, oilThresholds_shuts h hcount', ← hu]
  exact ⟨hstop, hnone, hzero, by rw [latchValue_latch, if_pos rfl, hlatches]⟩

end

end

theorem oilSection_outside {v : Nat} (h : ¬temperatureInRange v = true) (c : TestContext) (judged : Bool) (y : RunInSection) :
    oilSection c judged v y = y := if_neg h

theorem oilSection_inside {v : Nat} (h : temperatureInRange v = true) (c : TestContext) (judged : Bool) (y : RunInSection) :
    oilSection c judged v y =
      { y with
        maxOil := max y.maxOil v, prewarnSeen := y.prewarnSeen || (judged && decide (oilPrewarn c.copy ≤ v)) } := if_pos h

end Sys2Proof.Machine
end


section
/-! PROOFS. O31, requester by requester (spec/09). -/

namespace Sys2Proof.Machine

/-- The state at the delivery of a completion's value. -/
def countedState (c : Conversion) (v : Nat) (s : State) : State := s.withConv (counted c v s.conv)

/-- A value that its requester has withdrawn is passed on alone (R141). -/
theorem delivered_withdrawn {s : State} {r : Requester} {ch : Channel} (hr : r = .leak ∨ r = .zero)
    (hidle : ch = .p → s.leak.phase ≠ .vent ∧ s.mode.target = none) (v : Nat) :
    delivered ⟨r, ch, false⟩ v s = countedState ⟨r, ch, false⟩ v s := by
  have hdeliver : deliver ⟨r, ch, false⟩ v (countedState ⟨r, ch, false⟩ v s) = countedState ⟨r, ch, false⟩ v s := by
    rcases hr with rfl | rfl <;> rfl
  exact (congrArg (passPressure _ v) hdeliver).trans
    (passPressure_idle (c := ⟨r, ch, false⟩) (s := countedState ⟨r, ch, false⟩ v s) hidle v)

/-- A burst's owner with conversions left keeps the converter (R139). -/
theorem grant_owned {a : Arbiter} {r : Requester} {c : Channel} {rest : List Channel}
    (h : a.owner = some ⟨r, c :: rest⟩) : grant a = { a with inProgress := some ⟨r, c, true⟩ } := by
  rw [grant, h]

/-- The state with a ZERO value added to the check. -/
def zeroAdded (v : Nat) (s : State) : State := s.withZero { s.zero with sum := s.zero.sum + v, count := s.zero.count + 1 }

theorem zeroReading_eq {s : State} {k : CheckKind} (h : s.zero.check = some ⟨k, .burst⟩) (v : Nat) :
    zeroReading v s = if s.zero.count + 1 = 8 then judgeCheck k (zeroAdded v s) else zeroAdded v s := by
  rw [zeroReading, h]
  rfl

section
variable {s : State} {k : CheckKind} (hcheck : s.zero.check = some ⟨k, .burst⟩) (hphase : s.leak.phase ≠ .vent)
  (htarget : s.mode.target = none)
include hcheck hphase htarget

theorem delivered_zero_short {v : Nat} (h : s.zero.count + 1 ≠ 8) :
    delivered ⟨.zero, .p, true⟩ v s = zeroAdded v (countedState ⟨.zero, .p, true⟩ v s) := by
  have hdeliver : deliver ⟨.zero, .p, true⟩ v (countedState ⟨.zero, .p, true⟩ v s) =
      zeroAdded v (countedState ⟨.zero, .p, true⟩ v s) :=
    (zeroReading_eq (s := countedState ⟨.zero, .p, true⟩ v s) hcheck v).trans (if_neg h)
  have hidle := passPressure_idle (c := ⟨.zero, .p, true⟩) (s := zeroAdded v (countedState ⟨.zero, .p, true⟩ v s))
    (fun _ => ⟨hphase, htarget⟩) v
  exact (congrArg (passPressure _ v) hdeliver).trans hidle

theorem delivered_zero_full {v : Nat} (h : s.zero.count + 1 = 8) :
    ∃ a l, delivered ⟨.zero, .p, true⟩ v s =
      ((judgeCheck k (zeroAdded v (countedState ⟨.zero, .p, true⟩ v s))).withConv a).withLeak l := by
  have hdeliver : deliver ⟨.zero, .p, true⟩ v (countedState ⟨.zero, .p, true⟩ v s) =
      judgeCheck k (zeroAdded v (countedState ⟨.zero, .p, true⟩ v s)) :=
    (zeroReading_eq (s := countedState ⟨.zero, .p, true⟩ v s) hcheck v).trans (if_pos h)
  obtain ⟨hnone, hvent⟩ := judgeCheck_settled (s := zeroAdded v (countedState ⟨.zero, .p, true⟩ v s)) htarget hphase k
  obtain ⟨a, l, hpassed⟩ := passPressure_settled (c := ⟨.zero, .p, true⟩) hnone hvent v
  exact ⟨a, l, (congrArg (passPressure _ v) hdeliver).trans hpassed⟩

end

/-- Settles O31: what the completion hands on, by the requester that the conversion was granted to. -/
theorem completionSetsPressure : Obligations.CompletionSetsPressure := by
  unfold Obligations.CompletionSetsPressure
  refine ⟨fun v s c hprog => ⟨_, exec_completed hprog v, completed_keeps hprog v.toNat⟩,
    fun v s c hprog hc hphase hburst => ⟨_, exec_completed hprog v, completed_fill hc hphase hburst v.toNat⟩,
    fun v s ch c kind hprog hc hphase hburst => ⟨_, exec_completed hprog v, ?_⟩,
    fun v s r x hr hprog hphase => ⟨_, exec_completed hprog v, ?_⟩,
    fun v s x hprog => ⟨_, exec_completed hprog v, ?_⟩,
    fun v s ch x hprog => ⟨_, exec_completed hprog v, fun q => mark_completed_spot ch x v.toNat s q⟩,
    fun v s r ch hr hprog hidle => ?_,
    fun v s k hprog hcheck hphase htarget => ⟨_, exec_completed hprog v, ?_⟩⟩
  · intro n mark average
    refine ⟨?_, ?_, ?_⟩
    · rintro rfl hshort
      exact completed_burst_short hphase hc hburst hshort
    · rintro rfl hshort
      refine (completed_burst_short (ch := .ta) (v := v.toNat) hphase hc hburst hshort).trans ?_
      rw [leakAddConversion, rangeFails_iff]
    · rintro rfl hp hta
      have hfull : BurstFull c (conversionAdded .ta v.toNat s) := ⟨hp, hta⟩
      have hmark : (conversionAdded .ta v.toNat s).leak.rangeMark = mark :=
        congrArg (s.leak.rangeMark || ·) (rangeFails_iff v.toNat)
      refine ⟨fun hset => ?_, fun hclear hkind => ?_, fun hclear hkind a ha => ?_⟩
      · obtain ⟨hnone, hmeasure, hfirst, hsecond, hrecord⟩ :=
          completed_burst_sensor hphase hc hfull hburst (hmark.trans hset)
        refine ⟨hnone, hmeasure, hfirst, hsecond, fun i r l hslot hr hl => ?_⟩
        rw [(hrecord i r ⟨hslot, hr⟩).record, hl]
        rfl
      · obtain ⟨hleak, hrecord⟩ := completed_burst_start hphase hc hfull (hkind ▸ hburst) (hmark.trans hclear)
        rw [hleak]
        refine ⟨hphase, rfl, rfl, rfl, fun i r l hslot hr hl => ?_⟩
        rw [(hrecord i r ⟨hslot, hr⟩).record, hl]
        rfl
      · obtain ⟨hvent, hnone, houtcome, hrecord⟩ :=
          completed_burst_finish (e := average) hphase hc hfull (hkind ▸ hburst) (hmark.trans hclear) ha rfl
        intro rate fails
        have hrate : measuredRate c a average = rate := rfl
        rw [hrate] at houtcome
        refine ⟨hvent, hnone, fun hf => houtcome.trans (congrArg some (if_pos hf)),
          fun hf => houtcome.trans (congrArg some (if_neg hf)), fun i r l hslot hr hl hroom => ?_⟩
        have hposted := (hrecord i r ⟨hslot, hr⟩ hroom).record
        rw [hl, hrate] at hposted
        refine ⟨_, _, hposted, rfl, fun hf => ⟨if_pos hf, congrArg some (if_pos hf)⟩,
          fun hf => ⟨if_neg hf, congrArg some (if_neg hf)⟩, ?_⟩
        by_cases hfirst : s.leak.attempts = 1 <;> simp [rateWith, endWith, hfirst, hrate]
  · intro threshold
    obtain ⟨hleak, hctx, hzero, hmode⟩ := deliver_vent (s := countedState ⟨r, .p, x⟩ v.toNat s) hr hphase x v.toNat
    obtain ⟨hhigh, hlow⟩ := passPressure_vent (c := ⟨r, .p, x⟩) rfl
      (s := deliver ⟨r, .p, x⟩ v.toNat (countedState ⟨r, .p, x⟩ v.toNat s)) (by rw [hleak]; exact hphase) v.toNat
    rw [hleak, hctx, hzero] at hhigh
    rw [hleak, hctx, hzero, hmode] at hlow
    refine ⟨hhigh, fun hbelow => ?_⟩
    obtain ⟨hdone, hstays, hasks⟩ := hlow hbelow
    have hdone : (completed ⟨r, .p, x⟩ v.toNat s).leak = { leftLeak s.leak with phase := .done } := hdone
    rw [hdone]
    exact ⟨rfl, by simp, by simp, hstays, hasks⟩
  · obtain ⟨a, ha⟩ : ∃ a, completed ⟨.oil, .to, x⟩ v.toNat s =
        (oilReading x v.toNat (countedState ⟨.oil, .to, x⟩ v.toNat s)).withConv a := ⟨_, rfl⟩
    rw [ha]
    obtain ⟨u, hu⟩ : ∃ u, u = countedState ⟨.oil, .to, x⟩ v.toNat s := ⟨_, rfl⟩
    have htest : ∀ i r, onTestSlot s = some i → recordAt s i = some r → Testing u i r := fun i r hslot hr =>
      Testing.congr (s := s) ⟨hslot, hr⟩ (by rw [hu]; rfl)
    have henable : driveEnable u = driveEnable s := by rw [hu]; rfl
    have hmode : u.mode = s.mode := by rw [hu]; rfl
    have hctx : u.ctx = s.ctx := by rw [hu]; rfl
    have hevents : u.events = s.events := by rw [hu]; rfl
    have hsup : u.sup = s.sup := by rw [hu]; rfl
    have hlatch : ∀ k, latchValue u k = latchValue s k := fun k => by rw [hu]; rfl
    have hset : latchSet u .tempStale = latchSet s .tempStale := by rw [hu]; rfl
    rw [← hu]
    clear hu
    refine ⟨oilReading_lastOil x v.toNat u, ?_⟩
    intro fits stale judged
    have hfitsIff : fits ↔ temperatureInRange v.toNat = true := (fits_iff v.toNat).symm
    have hjudgedIff : judged ↔ x = true ∧ driveEnable u = true := by rw [henable]
    have hstale : driveEnable s = true → staleAfter u = stale := fun hon => by
      rw [staleAfter_on (henable.trans hon), hset, hsup]
    refine ⟨fun hno => ?_, fun hyes hout => ?_, fun hyes hin hnone => ?_, fun c hyes hin hc => ?_⟩
    · obtain ⟨hmode', hctx', hevents', hsup', hrecord⟩ := oilReading_unjudged_spec (fun h => hno (hjudgedIff.2 h)) v.toNat
      refine ⟨hmode'.trans hmode, hctx'.trans hctx, hevents'.trans hevents, hsup'.trans ?_, fun i r y hsome hslot hr hy => ?_⟩
      · rw [hsup]
        cases hon : driveEnable s with
        | true => rw [hstale hon]; rfl
        | false => rw [staleAfter_off (henable.trans hon), hsup]; rfl
      · obtain ⟨c, hc⟩ := Option.isSome_iff_exists.1 hsome
        have hafter := (hrecord c i r (hctx.trans hc) (htest i r hslot hr)).record
        rw [hy] at hafter
        refine ⟨fun hin => hafter.trans ?_, fun hout => hafter.trans ?_⟩
        · rw [Option.map_some, oilSection_inside (hfitsIff.1 hin)]
          simp
        · rw [Option.map_some, oilSection_outside (fun h => hout (hfitsIff.2 h)), ← hy]
    · obtain ⟨hstop, hcount, hsensor, hothers⟩ :=
        oilReading_outside_spec (hjudgedIff.1 hyes) (fun h => hout (hfitsIff.2 h))
      rw [hlatch] at hsensor
      exact ⟨hstop, hcount, hsensor, fun k hk => (hothers k hk).trans (hlatch k)⟩
    · obtain ⟨hmode', hsup'⟩ := oilReading_noTest_spec (hjudgedIff.1 hyes) (hfitsIff.1 hin) (hctx.trans hnone)
      refine ⟨hmode'.trans hmode, hsup'.trans ?_⟩
      rw [hstale hyes.2, hsup]
    · have hc' : u.ctx = some c := hctx.trans hc
      have hyes' := hjudgedIff.1 hyes
      have hin' := hfitsIff.1 hin
      have hvalues : ∀ k, k ≠ LatchKind.oilShutdown → latchValue (oilReading x v.toNat u) k =
          if k = .oilPrewarn ∧ oilPrewarn c.copy ≤ v.toNat then some ((latchValue s .oilPrewarn).getD v.toNat)
          else latchValue s k := fun k hk => by
        rw [latchValue_oilReading hyes' hin' hc' hk, hlatch, hlatch]
      intro warns
      refine ⟨fun hw => ?_, fun hw => ?_, fun k hk hk' => ?_, fun hcounts => ?_, fun hhigh hcount => ?_⟩
      · exact (hvalues .oilPrewarn (by decide)).trans (if_pos ⟨rfl, hw⟩)
      · exact (hvalues .oilPrewarn (by decide)).trans (if_neg fun h => hw h.2)
      · exact (hvalues k hk').trans (if_neg fun h => hk h.1)
      · rw [← hsup] at hcounts
        obtain ⟨hmode', hctx', hstale', hcount', hshutdown, hrecord⟩ := oilReading_counts_spec hyes' hin' hc' hcounts
        refine ⟨hmode'.trans hmode, hctx'.trans hctx, hstale'.trans (hstale hyes.2), hcount', hshutdown.trans (hlatch _),
          fun i r y hslot hr hy => ?_⟩
        have hafter := (hrecord i r (htest i r hslot hr)).record
        rw [hy, Option.map_some, oilSection_inside hin'] at hafter
        refine ⟨_, hafter, rfl, ?_⟩
        simp [warns]
      · rw [← hsup] at hcount
        obtain ⟨hstop, hnone, hzero, hshutdown⟩ := oilReading_shuts_spec hyes' hin' hc' hhigh hcount
        rw [hlatch] at hshutdown
        exact ⟨hstop, hnone, hzero, hshutdown⟩
  · rw [exec_completed hprog, completed, delivered_withdrawn hr hidle]
    rfl
  · refine ⟨fun hshort => ?_, fun hfull => ?_⟩
    · have hdelivered := delivered_zero_short hcheck hphase htarget (v := v.toNat) hshort
      refine ⟨?_, fun c rest howner => ?_⟩
      · rw [completed, hdelivered]
        rfl
      · have hcounted : (delivered ⟨.zero, .p, true⟩ v.toNat s).conv.owner = some ⟨.zero, c :: rest⟩ := by
          rw [hdelivered]
          exact congrArg countDown howner
        have hgrant : (completed ⟨.zero, .p, true⟩ v.toNat s).conv = _ :=
          grant_owned (a := { (delivered ⟨.zero, .p, true⟩ v.toNat s).conv with inProgress := none }) hcounted
        rw [hgrant]
        exact ⟨hcounted, rfl, by rw [hdelivered]; rfl⟩
    · obtain ⟨a, l, hdelivered⟩ := delivered_zero_full hcheck hphase htarget (v := v.toNat) hfull
      refine ⟨counted ⟨.zero, .p, true⟩ v.toNat s.conv, ?_⟩
      rw [completed, hdelivered, zeroAdded, countedState, State.withConv_zero, hfull]
      rfl

end Sys2Proof.Machine
end
